-- ==== Sys2Proof/Word.lean ====
section
/-!
DEFINITION. The widths of the block's values (spec/00_scope.md R9): a byte is 8 bits unsigned, a 16-bit value is
unsigned, there is no signed value anywhere. Arithmetic on a value of declared width N is modulo 2^N, which is
what `BitVec N` computes.
-/

namespace Sys2Proof

/-- A byte, 0..255 (R9). -/
abbrev Byte := BitVec 8

/-- The low half of a command byte, and so a sensor slot as a poll names it (R76). -/
abbrev Nibble := BitVec 4

/-- A "16-bit value": a channel, a sensor value, a checksum (R9). -/
abbrev Half := BitVec 16

/-- The time field of an event (R90), which holds a time of `P_CLOCK_BITS` ≤ 32 bits (R7, R41; log 20). -/
abbrev Millis := BitVec 32

/-- A diagnostic counter of `P_COUNTER_BITS` ≤ 32 bits (R7, R32; log 20). -/
abbrev Counter := BitVec 32

/-- An event word (R90). -/
abbrev EventWord := BitVec 64

end Sys2Proof
end

