-- ==== Sys2Proof/Config.lean ====
section
/-!
DEFINITION. The implementation parameters of spec/00_scope.md R7, each a field of `Config`, which a state carries and no
step writes (log 5), the configurations that run (R8; log 6, log 20), and the free values that INIT leaves in the
registers whose content the spec does not fix (R37, R38; log 3).
-/

namespace Sys2Proof

/-- `P_POLL_COUNT_SCOPE` (R7, OPEN; R160): which telemetry polls increment `cnt_poll`. -/
inductive PollCountScope where
  /-- Each POLL_DISCOVER only (the spec's default). -/
  | discoverOnly
  /-- Each POLL_DISCOVER, POLL_TYPE and POLL_VALUE. -/
  | allAnswered
  deriving DecidableEq, Repr

/-- The parameters of R7, one field each. Those to which R7 gives a fixed value have it in `Config.standard`. -/
structure Config where
  /-- `P_OVERHEAD`: the frame bytes not counted in the payload. R7 takes 3 (D3, C3). -/
  overhead : Nat
  /-- `P_MAX_LENGTH`: the largest accepted length byte. R7 takes 0x20 (D4). -/
  maxLength : Nat
  /-- `P_PAYLOAD_MAX`: the capacity of the payload buffer, `P_MAX_LENGTH − P_OVERHEAD`. R7 takes 29. -/
  payloadMax : Nat
  /-- `P_CHANNELS`: the number of channel registers. R7 takes 10. -/
  channels : Nat
  /-- `P_SENSOR_CAPACITY`: OPEN, an integer 1..15 (D6). -/
  sensorCapacity : Nat
  /-- `P_GAP_MS`: OPEN, a natural number (D7). -/
  gapMs : Nat
  /-- `P_GUARD_US`: OPEN, "tens of microseconds", at least 10 (D17). -/
  guardUs : Nat
  /-- `P_CLOCK_BITS`: the width of the millisecond time input. R7 takes 32 (D8). -/
  clockBits : Nat
  /-- `P_COUNTER_BITS`: the width of each diagnostic counter. R7 takes 32 (D15). -/
  counterBits : Nat
  /-- `P_POLL_COUNT_SCOPE`: OPEN (D14). -/
  pollCountScope : PollCountScope
  deriving DecidableEq, Repr

/-- The values that R7 takes, with those that the test vectors assume for the OPEN parameters, and for `P_GUARD_US` the
least that D17 allows (log 5). -/
def Config.standard : Config where
  overhead := 3
  maxLength := 0x20
  payloadMax := 29
  channels := 10
  sensorCapacity := 10
  gapMs := 2
  guardUs := 10
  clockBits := 32
  counterBits := 32
  pollCountScope := .discoverOnly

/-- The slots a 4-bit address can name besides slot 0 (R8, R163). -/
def Config.maxSlots : Nat := 15

/-- The three constraints of R8. -/
def Config.meetsR8 (c : Config) : Bool :=
  decide (c.sensorCapacity ≤ Config.maxSlots) && decide (c.maxLength ≤ 0xFF) && decide (c.overhead < c.maxLength)
    && decide (2 * c.channels + 1 ≤ c.payloadMax)

/-- The ranges of R7 and D17, and the definition of `P_PAYLOAD_MAX` (R7); a number of channels or a width is at least 1
(log 6). -/
def Config.inRange (c : Config) : Bool :=
  decide (1 ≤ c.sensorCapacity) && decide (10 ≤ c.guardUs) && decide (c.payloadMax = c.maxLength - c.overhead)
    && decide (1 ≤ c.channels) && decide (1 ≤ c.clockBits) && decide (1 ≤ c.counterBits)

/-- The state's registers are laid out for the values that R7 takes; a configuration with less uses a part of them
(log 20). -/
def Config.fits (c : Config) : Bool :=
  decide (c.payloadMax ≤ 29) && decide (c.channels ≤ 10) && decide (c.clockBits ≤ 32) && decide (c.counterBits ≤ 32)

/-- The configurations a model runs. A step in any other is refused (R8; log 6, log 20). -/
def Config.legal (c : Config) : Bool := c.meetsR8 && c.inRange && c.fits

/-- The places whose content INIT leaves unspecified (R37, R38). -/
inductive FreePlace where
  | plen
  | ptr
  | acc
  | rxLo
  /-- Payload buffer byte `k`. -/
  | buf (k : Nat)
  /-- The type of the sensor entry stored at index `k` (slot `k + 1`). -/
  | sensType (k : Nat)
  /-- The value of the sensor entry stored at index `k` (slot `k + 1`). -/
  | sensValue (k : Nat)
  deriving DecidableEq, Repr

/-- FREE VALUE (R37, R38: "unspecified"; log 3): what the `draw`-th INIT leaves in `place`, which held `old`. Nothing
constrains it; it may be `old` itself, as R33's "no access" of INIT to `sens` reads. -/
opaque Config.freeValue (w : Nat) (place : FreePlace) (draw : Nat) (old : BitVec w) : BitVec w

end Sys2Proof
end

