-- ==== Sys2Proof/Syntax.lean ====
section
/-!
DEFINITION. The instructions: one constructor for each row of spec/opcode_table.json. The block's "instructions" are
events, the rows of RX_BYTE that the decoder state selects, the inbound frames and the outbound reply frames
(spec/30_encoding.md, opening; R77, R80, R90).
-/

namespace Sys2Proof

/-- The decoder state register's five values (R21; the encodings 5..7 are never held and are left out). -/
inductive DState where
  /-- 0: the next byte is a length byte. -/
  | awaitingLength
  /-- 1: the next byte is a payload byte. -/
  | accumulatingPayload
  /-- 2: the next byte is the checksum's low byte. -/
  | awaitingChecksumLow
  /-- 3: the next byte is the checksum's high byte. -/
  | awaitingChecksumHigh
  /-- 4: bytes are ignored until a gap. -/
  | discarding
  deriving DecidableEq, Repr

/-- The per-state rules of RX_BYTE (R101): the table's RX_BYTE.* rows. -/
inductive RxRow where
  | lengthAccept
  | lengthReject
  | payload
  | checksumLow
  | checksumHigh
  | discard
  deriving DecidableEq, Repr

/-- The operation a validated inbound frame selects (R77), with its operands. -/
inductive FrameOp where
  | setChannels (data : List Byte)
  | pollDiscover (a : Nibble)
  | pollType (a : Nibble)
  | pollValue (a : Nibble)
  | pollUnknown (cmd : Byte)
  | ignored (cmd : Byte) (data : List Byte)
  deriving DecidableEq, Repr

/-- Every row of the opcode table. -/
inductive Instr where
  /-- SET_CHANNELS (R131): the frame's data bytes, `P[1..L−4]`. -/
  | setChannels (data : List Byte)
  /-- POLL_DISCOVER (R154) of slot `a`. -/
  | pollDiscover (a : Nibble)
  /-- POLL_TYPE (R155) of slot `a`. -/
  | pollType (a : Nibble)
  /-- POLL_VALUE (R156) of slot `a`. -/
  | pollValue (a : Nibble)
  /-- POLL_UNKNOWN (R157): the command byte. -/
  | pollUnknown (cmd : Byte)
  /-- IGNORED (R158): the command byte and the data bytes. -/
  | ignored (cmd : Byte) (data : List Byte)
  /-- REPLY_DISCOVER (R80, R154) for slot `a`. -/
  | replyDiscover (a : Nibble)
  /-- REPLY_TYPE (R80, R155) for slot `a` of type `ty`. -/
  | replyType (a : Nibble) (ty : Byte)
  /-- REPLY_VALUE (R80, R156) for slot `a` of value `v`. -/
  | replyValue (a : Nibble) (v : Half)
  /-- RX_BYTE.LENGTH_ACCEPT (R102). -/
  | rxLengthAccept (b : Byte) (t : Millis)
  /-- RX_BYTE.LENGTH_REJECT (R103). -/
  | rxLengthReject (b : Byte) (t : Millis)
  /-- RX_BYTE.PAYLOAD (R104). -/
  | rxPayload (b : Byte) (t : Millis)
  /-- RX_BYTE.CHECKSUM_LOW (R105). -/
  | rxChecksumLow (b : Byte) (t : Millis)
  /-- RX_BYTE.CHECKSUM_HIGH (R106). -/
  | rxChecksumHigh (b : Byte) (t : Millis)
  /-- RX_BYTE.DISCARD (R109). -/
  | rxDiscard (b : Byte) (t : Millis)
  /-- INIT (R190). -/
  | init (en : Bool) (t : Millis)
  /-- RX_BYTE (R101). -/
  | rxByte (b : Byte) (t : Millis)
  /-- READ_CHANNEL (R191). -/
  | readChannel (i : Byte)
  /-- REGISTER_SENSOR (R192). -/
  | registerSensor (ty : Byte)
  /-- SET_SENSOR_VALUE (R193). -/
  | setSensorValue (slot : Byte) (value : Half)
  /-- READ_COUNTER (R195). -/
  | readCounter (k : Byte)
  /-- RESERVED_OP_110 (R91): the bits above the op field. -/
  | reservedOp110 (x : BitVec 61)
  /-- RESERVED_OP_111 (R91): the bits above the op field. -/
  | reservedOp111 (x : BitVec 61)
  deriving DecidableEq, Repr

end Sys2Proof
end

