-- ==== Sys2Proof/WellFormed.lean ====
section
/-!
DEFINITION. The instructions that have an encoding: the operand conditions of each table row
(spec/30_encoding.md R71, R77, R80; spec/40_frame_decoder.md R102, R103).
-/

namespace Sys2Proof

/-- The data bytes of a frame number at most `P_PAYLOAD_MAX − 1`, since the command byte is payload byte 0 (R71). -/
def dataFits (c : Config) (data : List Byte) : Bool := decide (data.length + 1 ≤ c.payloadMax)

/-- A length byte in bounds: `P_OVERHEAD < b ≤ P_MAX_LENGTH` (R102). -/
def lengthInBounds (c : Config) (b : Byte) : Bool := decide (c.overhead < b.toNat) && decide (b.toNat ≤ c.maxLength)

/-- The operand conditions of each row, for a block with these parameters. A slot is 1..15 (R80, R163); POLL_UNKNOWN's
command byte has an address other than 0 and a sub-command other than the three known ones (R77 row 5); IGNORED's
command byte is not 0x40 (row 6). -/
def Instr.wf (c : Config) : Instr → Bool
  | .setChannels data => dataFits c data
  | .pollDiscover a => a != 0#4
  | .pollType a => a != 0#4
  | .pollValue a => a != 0#4
  | .pollUnknown cmd =>
    (cmd &&& 0x0F#8) != 0#8 && (cmd &&& 0xF0#8) != 0x80#8 && (cmd &&& 0xF0#8) != 0x90#8 && (cmd &&& 0xF0#8) != 0xA0#8
  | .ignored cmd data => cmd != 0x40#8 && dataFits c data
  | .replyDiscover a => a != 0#4
  | .replyType a _ => a != 0#4
  | .replyValue a _ => a != 0#4
  | .rxLengthAccept b _ => lengthInBounds c b
  | .rxLengthReject b _ => !lengthInBounds c b
  | .rxPayload _ _ => true
  | .rxChecksumLow _ _ => true
  | .rxChecksumHigh _ _ => true
  | .rxDiscard _ _ => true
  | .init _ _ => true
  | .rxByte _ _ => true
  | .readChannel _ => true
  | .registerSensor _ => true
  | .setSensorValue _ _ => true
  | .readCounter _ => true
  | .reservedOp110 _ => true
  | .reservedOp111 _ => true

end Sys2Proof
end

