-- ==== Sys2Proof/Decode.lean ====
section
/-!
DEFINITION. Byte order, the checksum, frames and event words (spec/30_encoding.md), the decoder, total and rejecting
what the spec gives no meaning, and after it the encoder. Three kinds of encoding carry the table's rows: 64-bit event
words (R90), inbound frames (R70, R77) and outbound reply frames (R80). Two kinds of row are "selected by" state as well
as by bits: the RX_BYTE.* rows by the decoder state (R111), the inbound rows by `telemetry_enable` and `sensor_count`
(R77). `Code` holds an encoding together with the state that selects its row (log 9, log 10).
-/

namespace Sys2Proof

/-! ### Byte order (R9, R53, R54) -/

/-- `lo8(v) = v[7:0]` (R9). -/
def lo8 (v : Half) : Byte := v.extractLsb' 0 8

/-- `hi8(v) = v[15:8]` (R9). -/
def hi8 (v : Half) : Byte := v.extractLsb' 8 8

/-- `u16(lo, hi) = zext_16(hi) << 8 | zext_16(lo)` (R9), little-endian on the wire (R53). -/
def u16 (lo hi : Byte) : Half := (hi.setWidth 16 <<< 8) ||| lo.setWidth 16

/-- The encoding of the decoder state (R21). -/
def DState.code : DState → BitVec 3
  | .awaitingLength => 0#3
  | .accumulatingPayload => 1#3
  | .awaitingChecksumLow => 2#3
  | .awaitingChecksumHigh => 3#3
  | .discarding => 4#3

/-! ### The checksum (R72, R114) -/

/-- The sum of bytes modulo 2^16. -/
def byteSum : List Byte → Half
  | [] => 0#16
  | b :: bs => b.setWidth 16 + byteSum bs

/-- `C = (0xFFFF − (Σ mod 2^16)) mod 2^16` over the length byte and the payload (R72). -/
def checksum (bytes : List Byte) : Half := 0xFFFF#16 - byteSum bytes

/-! ### Command bytes (R76) -/

/-- `addr = cmd[3:0]` (R76). -/
def cmdAddr (cmd : Byte) : Nibble := cmd.extractLsb' 0 4

/-- `sub = cmd & 0xF0`, kept in place (R76). -/
def cmdSub (cmd : Byte) : Byte := cmd &&& 0xF0#8

/-- The command byte of a poll or a reply: `(sub + a) mod 2^8` (R81, R152). -/
def commandByte (sub : Byte) (a : Nibble) : Byte := sub + a.setWidth 8

/-- The control command's code (R76, R130). -/
def cmdSetChannels : Byte := 0x40#8

/-- The Discover sub-command (R77). -/
def subDiscover : Byte := 0x80#8

/-- The Type sub-command (R77). -/
def subType : Byte := 0x90#8

/-- The Value sub-command (R77). -/
def subValue : Byte := 0xA0#8

/-- The "fixed reserved byte" of a Type reply (R81). -/
def typeReplyByte : Byte := 0x02#8

/-! ### Frames (R70, R71) -/

/-- The length bytes the block accepts: `P_OVERHEAD < b ≤ P_MAX_LENGTH` (R71, R102). -/
def lengthAccepted (c : Config) (b : Byte) : Bool := decide (c.overhead < b.toNat) && decide (b.toNat ≤ c.maxLength)

/-- The length byte of a frame with these data bytes: overhead + command byte + data (R70, R152). -/
def frameLength (c : Config) (data : List Byte) : Byte := BitVec.ofNat 8 (c.overhead + 1 + data.length)

/-- The frame `[L, cmd] ++ data ++ [C_lo, C_hi]` (R70, R72). -/
def encodeFrame (c : Config) (cmd : Byte) (data : List Byte) : List Byte :=
  let l := frameLength c data
  let sum := checksum (l :: cmd :: data)
  l :: cmd :: data ++ [lo8 sum, hi8 sum]

/-- Why an encoding stands for no instruction. -/
inductive Reject where
  /-- A bit is set that is no field of the event the word selects (R91). -/
  | reservedBit
  /-- The word at a decoder state is not an RX_BYTE word, and only RX_BYTE has rows. -/
  | notRxByte
  /-- The length byte is out of bounds (R103), or the number of bytes is not the length byte's. -/
  | frameLength
  /-- The frame's checksum is not the one of R72 (R108). -/
  | frameChecksum
  /-- An outbound frame that is none of the three replies (R80). -/
  | notReply
  deriving DecidableEq, Repr

/-- The command byte and the data bytes of a frame that is whole and passes its checksum (R70 to R73). -/
def decodeFrame (c : Config) : List Byte → Except Reject (Byte × List Byte)
  | [] => .error .frameLength
  | [_] => .error .frameLength
  | l :: cmd :: rest =>
    let n := l.toNat - c.overhead - 1
    let data := rest.take n
    if lengthAccepted c l && rest.length == n + 2 then
      if u16 (rest[n]?.getD 0#8) (rest[n + 1]?.getD 0#8) = checksum (l :: cmd :: data) then .ok (cmd, data)
      else .error .frameChecksum
    else .error .frameLength

/-! ### Selection of a row by bits and state -/

/-- The row of RX_BYTE for a byte, by the decoder state after the gap rule (R101, R111). -/
def selectRx (c : Config) (d : DState) (b : Byte) : RxRow :=
  match d with
  | .awaitingLength => if lengthAccepted c b then .lengthAccept else .lengthReject
  | .accumulatingPayload => .payload
  | .awaitingChecksumLow => .checksumLow
  | .awaitingChecksumHigh => .checksumHigh
  | .discarding => .discard

/-- The instruction of a row for its byte and time. -/
def RxRow.toInstr (r : RxRow) (b : Byte) (t : Millis) : Instr :=
  match r with
  | .lengthAccept => .rxLengthAccept b t
  | .lengthReject => .rxLengthReject b t
  | .payload => .rxPayload b t
  | .checksumLow => .rxChecksumLow b t
  | .checksumHigh => .rxChecksumHigh b t
  | .discard => .rxDiscard b t

/-- The poll condition of R151: `plen = 1 ∧ telemetry_enable = 1 ∧ 1 ≤ addr ≤ sensor_count`. -/
def dispatchedPoll (en : Bool) (count plen : Nat) (a : Nibble) : Bool :=
  plen == 1 && en && decide (1 ≤ a.toNat) && decide (a.toNat ≤ count)

/-- The inbound operation map (R77), rows in order, for a validated frame of payload length `plen` with command byte
`cmd` and data bytes `data`. -/
def classify (en : Bool) (count plen : Nat) (cmd : Byte) (data : List Byte) : FrameOp :=
  if cmd = cmdSetChannels then .setChannels data
  else if dispatchedPoll en count plen (cmdAddr cmd) then
    if cmdSub cmd = subDiscover then .pollDiscover (cmdAddr cmd)
    else if cmdSub cmd = subType then .pollType (cmdAddr cmd)
    else if cmdSub cmd = subValue then .pollValue (cmdAddr cmd)
    else .pollUnknown cmd
  else .ignored cmd data

/-- The instruction of an inbound operation. -/
def FrameOp.toInstr : FrameOp → Instr
  | .setChannels data => .setChannels data
  | .pollDiscover a => .pollDiscover a
  | .pollType a => .pollType a
  | .pollValue a => .pollValue a
  | .pollUnknown cmd => .pollUnknown cmd
  | .ignored cmd data => .ignored cmd data

/-- The reply an outbound frame's command byte and data bytes stand for (R80). -/
def classifyReply (cmd : Byte) (data : List Byte) : Except Reject Instr :=
  let a := cmdAddr cmd
  if a = 0#4 then .error .notReply
  else
    match data with
    | [] => if cmdSub cmd = subDiscover then .ok (.replyDiscover a) else .error .notReply
    | [x, y] =>
      if cmdSub cmd = subType && y == typeReplyByte then .ok (.replyType a x)
      else if cmdSub cmd = subValue then .ok (.replyValue a (u16 x y))
      else .error .notReply
    | [_] => .error .notReply
    | _ :: _ :: _ :: _ => .error .notReply

/-! ### The decoder -/

/-- An encoding, with the state that selects its row where the table's row is selected by state too. -/
inductive Code where
  /-- An event word (R90). -/
  | event (e : EventWord)
  /-- An event word at a decoder state, which is the one after the gap rule: the RX_BYTE.* rows. -/
  | rxEvent (d : DState) (e : EventWord)
  /-- An inbound frame, received while `telemetry_enable = en` and `sensor_count = count` (R77). -/
  | inbound (en : Bool) (count : Nat) (bytes : List Byte)
  /-- An outbound frame (R80). -/
  | outbound (bytes : List Byte)
  deriving DecidableEq, Repr

/-- The event an event word stands for (R90). A set bit that is no field of the selected event is rejected: such an
event is refused (R91). The operations 110 and 111 have no field; they decode to the table's reserved rows, whose
meaning is the refusal. -/
def decodeEvent (e : EventWord) : Except Reject Instr :=
  let op := e.extractLsb' 0 3
  let low := e.extractLsb' 3 5
  let b := e.extractLsb' 8 8
  let h := e.extractLsb' 16 16
  let t := e.extractLsb' 32 32
  if op = 0#3 then
    if e.extractLsb' 4 28 = 0#28 then .ok (.init (e.getLsbD 3) t) else .error .reservedBit
  else if op = 1#3 then
    if low = 0#5 ∧ h = 0#16 then .ok (.rxByte b t) else .error .reservedBit
  else if op = 2#3 then
    if low = 0#5 ∧ h = 0#16 ∧ t = 0#32 then .ok (.readChannel b) else .error .reservedBit
  else if op = 3#3 then
    if low = 0#5 ∧ h = 0#16 ∧ t = 0#32 then .ok (.registerSensor b) else .error .reservedBit
  else if op = 4#3 then
    if low = 0#5 ∧ t = 0#32 then .ok (.setSensorValue b h) else .error .reservedBit
  else if op = 5#3 then
    if low = 0#5 ∧ h = 0#16 ∧ t = 0#32 then .ok (.readCounter b) else .error .reservedBit
  else if op = 6#3 then .ok (.reservedOp110 (e.extractLsb' 3 61))
  else .ok (.reservedOp111 (e.extractLsb' 3 61))

/-- The decoder, for a block with these parameters. -/
def decode (c : Config) : Code → Except Reject Instr
  | .event e => decodeEvent e
  | .rxEvent d e =>
    match decodeEvent e with
    | .ok (.rxByte b t) => .ok ((selectRx c d b).toInstr b t)
    | .ok _ => .error .notRxByte
    | .error r => .error r
  | .inbound en count bytes =>
    match decodeFrame c bytes with
    | .ok (cmd, data) => .ok (classify en count (data.length + 1) cmd data).toInstr
    | .error r => .error r
  | .outbound bytes =>
    match decodeFrame c bytes with
    | .ok (cmd, data) => classifyReply cmd data
    | .error r => .error r

/-! ### The encoder -/

/-- The word of INIT (R90): op 000, `en = e[3]`, `t = e[63:32]`. -/
def initWord (en : Bool) (t : Millis) : EventWord := (t.setWidth 64 <<< 32) ||| ((BitVec.ofBool en).setWidth 64 <<< 3)

/-- The word of RX_BYTE and of each of its rows (R90): op 001, `b = e[15:8]`, `t = e[63:32]`. -/
def rxWord (b : Byte) (t : Millis) : EventWord := (t.setWidth 64 <<< 32) ||| (b.setWidth 64 <<< 8) ||| 1#64

/-- The word of a host operation with fields `e[15:8]` and `e[31:16]` (R90). -/
def hostWord (op : BitVec 3) (b : Byte) (h : Half) : EventWord :=
  (h.setWidth 64 <<< 16) ||| (b.setWidth 64 <<< 8) ||| op.setWidth 64

/-- The word of a reserved operation: op, and any bits above it (R91). -/
def reservedWord (op : BitVec 3) (x : BitVec 61) : EventWord := (x.setWidth 64 <<< 3) ||| op.setWidth 64

/-- The encoding of an instruction. A poll's row is selected with telemetry enabled and every slot registered, IGNORED's
with telemetry disabled (R77). -/
def encode (c : Config) : Instr → Code
  | .setChannels data => .inbound true Config.maxSlots (encodeFrame c cmdSetChannels data)
  | .pollDiscover a => .inbound true Config.maxSlots (encodeFrame c (commandByte subDiscover a) [])
  | .pollType a => .inbound true Config.maxSlots (encodeFrame c (commandByte subType a) [])
  | .pollValue a => .inbound true Config.maxSlots (encodeFrame c (commandByte subValue a) [])
  | .pollUnknown cmd => .inbound true Config.maxSlots (encodeFrame c cmd [])
  | .ignored cmd data => .inbound false 0 (encodeFrame c cmd data)
  | .replyDiscover a => .outbound (encodeFrame c (commandByte subDiscover a) [])
  | .replyType a ty => .outbound (encodeFrame c (commandByte subType a) [ty, typeReplyByte])
  | .replyValue a v => .outbound (encodeFrame c (commandByte subValue a) [lo8 v, hi8 v])
  | .rxLengthAccept b t => .rxEvent .awaitingLength (rxWord b t)
  | .rxLengthReject b t => .rxEvent .awaitingLength (rxWord b t)
  | .rxPayload b t => .rxEvent .accumulatingPayload (rxWord b t)
  | .rxChecksumLow b t => .rxEvent .awaitingChecksumLow (rxWord b t)
  | .rxChecksumHigh b t => .rxEvent .awaitingChecksumHigh (rxWord b t)
  | .rxDiscard b t => .rxEvent .discarding (rxWord b t)
  | .init en t => .event (initWord en t)
  | .rxByte b t => .event (rxWord b t)
  | .readChannel i => .event (hostWord 2#3 i 0#16)
  | .registerSensor ty => .event (hostWord 3#3 ty 0#16)
  | .setSensorValue slot value => .event (hostWord 4#3 slot value)
  | .readCounter k => .event (hostWord 5#3 k 0#16)
  | .reservedOp110 x => .event (reservedWord 6#3 x)
  | .reservedOp111 x => .event (reservedWord 7#3 x)

/-- The pseudo-event `RXF [b0 .. bn] t=T dt=D` (R92, R93): one RX_BYTE word per byte, each `D` ms after the last. -/
def rxf (bytes : List Byte) (t dt : Millis) : List EventWord :=
  match bytes with
  | [] => []
  | b :: bs => rxWord b t :: rxf bs (t + dt) dt

/-! ### The opcode table's numbering (log 12) -/

/-- The `n` bytes of `w`, the least significant first. -/
def bytesOf : Nat → Nat → List Byte
  | 0, _ => []
  | n + 1, w => BitVec.ofNat 8 w :: bytesOf n (w / 256)

/-- Whether a one-byte table word is the low byte of a reserved operation's event word and not one of the command bytes
that R77 names by value. -/
def isReservedByte (b : Byte) : Bool :=
  (b.extractLsb' 0 3 == 6#3 || b.extractLsb' 0 3 == 7#3)
    && cmdSub b != subDiscover && cmdSub b != subType && cmdSub b != subValue && b != cmdSetChannels

/-- The encoding that `nbits` bits `w` of the opcode table stand for. A row of up to 8 bits is a command byte, in the
4-byte frame with no data bytes, or the low byte of a reserved operation; a row of 48 bits is a reply frame, and so is a
row of 32 bits that is a valid one; any other is an event word. -/
def tableCode (nbits w : Nat) : Code :=
  if nbits ≤ 8 then
    if isReservedByte (BitVec.ofNat 8 w) then .event (BitVec.ofNat 64 w)
    else .inbound true Config.maxSlots (encodeFrame Config.standard (BitVec.ofNat 8 w) [])
  else if nbits = 48 then .outbound (bytesOf 6 w)
  else if nbits = 32 ∧ (decode Config.standard (.outbound (bytesOf 4 w))).toBool then .outbound (bytesOf 4 w)
  else .event (BitVec.ofNat 64 w)

/-- The instruction the decoder reads from an instruction of the opcode table. -/
def decodeTableWord (nbits w : Nat) : Option Instr := (decode Config.standard (tableCode nbits w)).toOption

end Sys2Proof
end

