-- ==== Sys2Proof/Machine/State.lean ====
section
/-!
DEFINITION. The state of the block as spec/10_state.md gives it (R20 to R32, R39, R42), the model's own fields beside
it, the reasons a step stops (spec/60_exceptions.md R239), and the state after reset (R38, R250).
-/

namespace Sys2Proof.Machine

/-- A sensor's entry: `{type: 8-bit code, value: 16-bit unsigned}` (R30). -/
structure Sensor where
  /-- The 8-bit type code, opaque (U17). -/
  type : Byte
  /-- The current value. -/
  value : Half
  deriving DecidableEq, Repr

/-- An outcome code with the information it records (R221). An observation only: no register holds one (R222). Code 0,
"none", is the step that records nothing (log 18). -/
inductive Observation where
  /-- 1 (R131). -/
  | controlAccepted
  /-- 2 (R154, R155, R156): the slot and the sub-command. -/
  | pollAnswered (slot : Nibble) (sub : Byte)
  /-- 3 (R103): the rejected length byte. -/
  | invalidLength (b : Byte)
  /-- 4 (R108): the received checksum and the accumulator. -/
  | checksumMismatch (rx acc : Half)
  /-- 5 (R157): the command byte. -/
  | unknownSensorSubcommand (cmd : Byte)
  /-- 6 (R158): the command byte. -/
  | frameIgnored (cmd : Byte)
  /-- 7 (R192): the type. -/
  | sensorOverflow (ty : Byte)
  /-- 8 (R193): the slot. -/
  | sensorSlotOutOfRange (slot : Byte)
  /-- 9 (R100): the state abandoned. -/
  | frameAbandoned (d : DState)
  deriving DecidableEq, Repr

/-- A result returned on the host port (R43). -/
inductive HostResult where
  /-- The 16-bit value of READ_CHANNEL. -/
  | channel (v : Half)
  /-- The slot number of REGISTER_SENSOR. -/
  | slot (n : Nat)
  /-- The `P_COUNTER_BITS` value of READ_COUNTER. -/
  | counter (v : Counter)
  deriving DecidableEq, Repr

/-- A guard pause that was made (R153, R262): an observation for a test of its invocation. -/
structure Guard where
  /-- How many bytes had been transmitted when the pause was made. -/
  txPosition : Nat
  /-- The least length of the pause in microseconds, `P_GUARD_US`. -/
  microseconds : Nat
  deriving DecidableEq, Repr

/-- The state of the machine. -/
structure State where
  /-- The MODEL's own field: the parameters of R7. No step writes it (log 5). -/
  cfg : Config
  /-- The MODEL's own field: the input events not yet taken, oldest first (R61, R90; log 7). -/
  events : List EventWord
  /-- 0 at power-on, 1 from the first INIT on (R39). -/
  initDone : Bool
  /-- The decoder state register (R21). -/
  dstate : DState
  /-- The declared payload length of the frame being assembled (R22). -/
  plen : BitVec 5
  /-- The number of payload bytes stored so far (R23). -/
  ptr : BitVec 5
  /-- The running checksum accumulator (R24). -/
  acc : Half
  /-- The received checksum's low byte (R25). -/
  rxLo : Byte
  /-- The payload buffer (R26): a configuration uses the first `P_PAYLOAD_MAX` bytes. -/
  buf : Vector Byte 29
  /-- The time of the latest RX_BYTE, or of INIT (R27); the gap rule reads its low `P_CLOCK_BITS` bits. -/
  lastMs : Millis
  /-- The ChannelStore (R28): a configuration uses the first `P_CHANNELS` registers. -/
  ch : Vector Half 10
  /-- The number of registered sensors (R29). -/
  sensorCount : Nat
  /-- The sensor registry (R30): slot `s` stands at index `s − 1`; a configuration uses the first
  `P_SENSOR_CAPACITY`. -/
  sens : Vector Sensor 15
  /-- 1 when telemetry polls are answered (R31). -/
  telemetryEnable : Bool
  /-- Counter 0: dispatched control frames (R32). -/
  cntRec : Counter
  /-- Counter 1: rejected length bytes (R32). -/
  cntLenerr : Counter
  /-- Counter 2: polls selected by `P_POLL_COUNT_SCOPE` (R32, R160). -/
  cntPoll : Counter
  /-- Counter 3: Value replies emitted (R32). -/
  cntSensor : Counter
  /-- The transmit stream since power-on, oldest first (R42). -/
  tx : List Byte
  /-- The MODEL's own field: the results returned on the host port, oldest first (R43; log 8). -/
  results : List HostResult
  /-- The MODEL's own field: the outcomes recorded, oldest first (R221; log 8). -/
  outcomes : List Observation
  /-- The MODEL's own field: the guard pauses made, oldest first (R153; log 8). -/
  guards : List Guard
  /-- The MODEL's own field: how many times INIT has drawn free values (log 4). -/
  freeDraws : Nat
  deriving DecidableEq, Repr

/-- Why the machine stops with a fault. It never does: "The model never faults" (R239), so there is no reason. -/
inductive Fault where
  deriving DecidableEq, Repr

/-- Why a step is refused (R239). A refused run has no further state: that is the "sticky mark kept for the whole run"
(log 13). -/
inductive Refusal where
  /-- An instruction without a meaning; no arm of `exec` answers it. Safe. -/
  | notModelled (mnemonic : String)
  /-- Any event but INIT while `init_done = 0` (R39): raised by RX_BYTE, its rows and the host operations. Safe. -/
  | beforeInit
  /-- An event with op 110 or 111 (R91): raised by RESERVED_OP_110 and RESERVED_OP_111. Safe. -/
  | reservedOperation
  /-- An event the decoder rejects, which is one with a reserved bit set (R91): raised by the step. Safe. -/
  | undecodable (r : Reject)
  /-- READ_COUNTER with a number above 3 (R195). Safe. -/
  | counterNumber (k : Byte)
  /-- A configuration that R8 forbids (log 6), or outside the ranges of R7 (log 6), or larger than the state is laid
  out for (log 20): raised by the step. Safe. -/
  | illegalConfiguration
  deriving DecidableEq, Repr

/-- The state right after reset, which is the INIT operation (R38, R250), here `INIT en=1 t=0` with the parameters that
the spec's test vectors assume (log 2, log 5). The registers that R38 leaves unspecified hold 0 (log 1). -/
def State.reset : State where
  cfg := Config.standard
  events := []
  initDone := true
  dstate := .discarding
  plen := 0#5
  ptr := 0#5
  acc := 0#16
  rxLo := 0#8
  buf := Vector.replicate 29 0#8
  lastMs := 0#32
  ch := Vector.replicate 10 0#16
  sensorCount := 0
  sens := Vector.replicate 15 ⟨0#8, 0#16⟩
  telemetryEnable := true
  cntRec := 0#32
  cntLenerr := 0#32
  cntPoll := 0#32
  cntSensor := 0#32
  tx := []
  results := []
  outcomes := []
  guards := []
  freeDraws := 0

end Sys2Proof.Machine
end

