-- ==== Sys2Proof/Machine/Operands.lean ====
section
/-!
DEFINITION. The storage spaces' elements and the operands the rules read (spec/20_memory.md R50 to R56;
spec/40_frame_decoder.md, operands lines). One access moves one whole element (R50).
-/

namespace Sys2Proof.Machine

/-- `buf[i]` (R26, R51 space BUF). No rule reads beyond the buffer (R56; log 17). -/
def readBuf (i : Nat) (s : State) : Byte := s.buf[i]?.getD 0#8

/-- `ch[i]` (R28, R51 space CH); 0 beyond the last register, as READ_CHANNEL answers there (R56). -/
def readCh (i : Nat) (s : State) : Half := s.ch[i]?.getD 0#16

/-- The entry of sensor slot `slot` (R30). Slot 0 does not exist (R51), and no rule reads an unregistered slot (R37;
log 17). -/
def readSensor (slot : Nat) (s : State) : Sensor :=
  if slot = 0 then ⟨0#8, 0#16⟩ else s.sens[slot - 1]?.getD ⟨0#8, 0#16⟩

/-- Counter `k` (R32, R51 space CNT), for `k` in 0..3. -/
def readCnt (k : Nat) (s : State) : Option Counter :=
  match k with
  | 0 => some s.cntRec
  | 1 => some s.cntLenerr
  | 2 => some s.cntPoll
  | 3 => some s.cntSensor
  | _ + 4 => none

/-- The command byte of the frame in the buffer: `buf[0]` (R26, R151). -/
def frameCommand (s : State) : Byte := readBuf 0 s

/-- The data bytes of the frame in the buffer: `buf[1 .. plen − 1]` (R71). -/
def frameData (s : State) : List Byte := (s.buf.toList.take s.plen.toNat).drop 1

/-- The operation that the frame in the buffer selects (R77), with `sensor_count` and `telemetry_enable` as they are now
(R151). -/
def frameOp (s : State) : FrameOp :=
  classify s.telemetryEnable s.sensorCount s.plen.toNat (frameCommand s) (frameData s)

/-- Pair `i` of a control frame's data bytes: `u16(P[1+2i], P[2+2i])` (R78). -/
def channelPair (data : List Byte) (i : Nat) : Half := u16 (data[2 * i]?.getD 0#8) (data[2 * i + 1]?.getD 0#8)

/-- Pair `i` is wholly present: `2i + 2 ≤ plen − 1`, where `plen − 1` is the number of data bytes (R131, R132). -/
def pairPresent (data : List Byte) (i : Nat) : Bool := decide (2 * i + 2 ≤ data.length)

/-- The decoder holds part of a frame: `dstate ∈ {AccumulatingPayload, AwaitingChecksumLow, AwaitingChecksumHigh}`
(R100, R101). -/
def holdsPartialFrame : DState → Bool
  | .awaitingLength => false
  | .accumulatingPayload => true
  | .awaitingChecksumLow => true
  | .awaitingChecksumHigh => true
  | .discarding => false

end Sys2Proof.Machine
end

