-- ==== Sys2Proof/Machine/Flags.lean ====
section
/-!
DEFINITION. The conditions computed within one step. The block keeps no condition code (spec/10_state.md R35); these
are combinational.
-/

namespace Sys2Proof.Machine

/-- `elapsed = (t − last_ms) mod 2^P_CLOCK_BITS` (R100, R115). -/
def elapsed (t : Millis) (s : State) : Nat := (t - s.lastMs).toNat % 2 ^ s.cfg.clockBits

/-- The gap rule's condition, strict: `elapsed > P_GAP_MS` (R100). -/
def gapExceeded (t : Millis) (s : State) : Bool := decide (s.cfg.gapMs < elapsed t s)

/-- The received checksum: the stored low byte and the high byte `b` (R73, R106). -/
def receivedChecksum (b : Byte) (s : State) : Half := u16 s.rxLo b

/-- `match`: the received checksum equals the accumulator (R107). -/
def checksumMatch (b : Byte) (s : State) : Bool := receivedChecksum b s == s.acc

/-- The frame's poll of slot `a` is dispatched (R151), for the frame of payload length 1 that a poll is (R79). -/
def pollDispatched (a : Nibble) (s : State) : Bool := dispatchedPoll s.telemetryEnable s.sensorCount 1 a

end Sys2Proof.Machine
end

