-- ==== Sys2Proof/Machine/Ops.lean ====
section
/-!
DEFINITION. The named operations every meaning is built from: storage writes (spec/20_memory.md R50), observations
(spec/60_exceptions.md R221), the ports (spec/10_state.md R41 to R43), the counters (R32), the gap rule (R100) and the
entry to Discarding, the block's one error state (R229). There is no exception to take or to return from (R220,
R229, R230).
-/

namespace Sys2Proof.Machine

/-! ### Storage -/

/-- `buf[i] <- b` (R104). -/
def writeBuf (i : Nat) (b : Byte) (s : State) : State := { s with buf := s.buf.setIfInBounds i b }

/-- `sens[slot].type <- ty; sens[slot].value <- v` (R192). Slot 0 does not exist (R51). -/
def writeSensor (slot : Nat) (e : Sensor) (s : State) : State :=
  if slot = 0 then s else { s with sens := s.sens.setIfInBounds (slot - 1) e }

/-- `sens[slot].value <- v` (R193). -/
def writeSensorValue (slot : Nat) (v : Half) (s : State) : State :=
  writeSensor slot { readSensor slot s with value := v } s

/-! ### Counters, each wrapping modulo 2^P_COUNTER_BITS (R32, R266) -/

/-- `x + 1` modulo 2^P_COUNTER_BITS (R32, R103). -/
def nextCount (c : Config) (x : Counter) : Counter := BitVec.ofNat 32 ((x.toNat + 1) % 2 ^ c.counterBits)

/-- `cnt_rec <- cnt_rec + 1`. -/
def countFrame (s : State) : State := { s with cntRec := nextCount s.cfg s.cntRec }

/-- `cnt_lenerr <- cnt_lenerr + 1`. -/
def countLengthError (s : State) : State := { s with cntLenerr := nextCount s.cfg s.cntLenerr }

/-- `cnt_poll <- cnt_poll + 1` when `P_POLL_COUNT_SCOPE` is one of `scopes` (R160). -/
def countPoll (scopes : List PollCountScope) (s : State) : State :=
  if s.cfg.pollCountScope ∈ scopes then { s with cntPoll := nextCount s.cfg s.cntPoll } else s

/-- `cnt_sensor <- cnt_sensor + 1`. -/
def countValueReply (s : State) : State := { s with cntSensor := nextCount s.cfg s.cntSensor }

/-! ### Observations and ports -/

/-- `raise o`: an observation only (R10, R221). -/
def observe (o : Observation) (s : State) : State := { s with outcomes := s.outcomes ++ [o] }

/-- The outcome code of R221. -/
def Observation.code : Observation → Nat
  | .controlAccepted => 1
  | .pollAnswered _ _ => 2
  | .invalidLength _ => 3
  | .checksumMismatch _ _ => 4
  | .unknownSensorSubcommand _ => 5
  | .frameIgnored _ => 6
  | .sensorOverflow _ => 7
  | .sensorSlotOutOfRange _ => 8
  | .frameAbandoned _ => 9

/-- The outcome codes of a step from `before` to `after`: those it recorded, or code 0 when it recorded none (R221). -/
def outcomeCodes (before after : State) : List Nat :=
  match (after.outcomes.drop before.outcomes.length).map Observation.code with
  | [] => [0]
  | c :: cs => c :: cs

/-- A host operation returns `r` on the host port (R43). -/
def returnResult (r : HostResult) (s : State) : State := { s with results := s.results ++ [r] }

/-- `GuardDelay()`: it changes nothing but the observation that the pause was made (R153, R262; log 15). -/
def guardDelay (s : State) : State := { s with guards := s.guards ++ [⟨s.tx.length, s.cfg.guardUs⟩] }

/-- `Emit(bytes)` (R10, R42). -/
def emit (bytes : List Byte) (s : State) : State := { s with tx := s.tx ++ bytes }

/-- `EncodeReply(a, sub, data)` (R152). -/
def encodeReply (c : Config) (a : Nibble) (sub : Byte) (data : List Byte) : List Byte :=
  encodeFrame c (commandByte sub a) data

/-- A reply: the guard pause, then all its bytes in order (R153). -/
def sendReply (a : Nibble) (sub : Byte) (data : List Byte) (s : State) : State :=
  emit (encodeReply s.cfg a sub data) (guardDelay s)

/-! ### The decoder's control state -/

/-- `dstate <- Discarding`, the entry to the error and idle state, which saves nothing (R110, R229). -/
def enterDiscarding (s : State) : State := { s with dstate := .discarding }

/-- The gap rule's resynchronisation: a partial frame is abandoned and observed, `dstate <- AwaitingLength` (R100). -/
def resynchronise (s : State) : State :=
  { (if holdsPartialFrame s.dstate then observe (.frameAbandoned s.dstate) s else s) with dstate := .awaitingLength }

/-- The gap rule (R100), before every byte; `last_ms` is written on every byte. -/
def gapRule (t : Millis) (s : State) : State :=
  { (if gapExceeded t s then resynchronise s else s) with lastMs := t }

/-! ### Outcomes of an event -/

/-- Every event but INIT is refused before the first INIT (R39); after it, the next state is `t`. -/
def afterInit (s t : State) : Host.Outcome State Fault Refusal :=
  if s.initDone then .next t else .refused .beforeInit

end Sys2Proof.Machine
end

