-- ==== Sys2Proof/Machine/Control.lean ====
section
/-!
DEFINITION. The control command (spec/41_control_command.md). It runs inside the CHECKSUM_HIGH step, before
`dstate <- Discarding` (R131).
-/

namespace Sys2Proof.Machine

/-- The channel writes of a control frame: pair `i` of `data` where it is wholly present, for `i` below `P_CHANNELS`;
the other channels keep their values (R131, R132), pairs beyond have no register (R133). -/
def writeChannels (data : List Byte) (s : State) : State :=
  { s with
    ch := Vector.ofFn fun i : Fin 10 =>
      if i.val < s.cfg.channels ∧ pairPresent data i then channelPair data i else s.ch[i] }

/-- What SET_CHANNELS does (R131, R134). -/
def setChannels (data : List Byte) (s : State) : State :=
  observe .controlAccepted (countFrame (writeChannels data s))

/-- SET_CHANNELS (R131). -/
def execSetChannels (data : List Byte) (s : State) : Host.Outcome State Fault Refusal :=
  .next (setChannels data s)

end Sys2Proof.Machine
end

