-- ==== Sys2Proof/Machine/Reply.lean ====
section
/-!
DEFINITION. The telemetry-response encoder's three replies (spec/30_encoding.md R80; spec/42_telemetry.md R152, R153).
A reply is emitted inside the step of the poll that it answers (R161; log 11).
-/

namespace Sys2Proof.Machine

/-- The Discover reply `[0x04, 0x80 + a, C_lo, C_hi]` (R80, R154). -/
def replyDiscover (a : Nibble) (s : State) : State := sendReply a subDiscover [] s

/-- The Type reply `[0x06, 0x90 + a, type, 0x02, C_lo, C_hi]` (R80, R155). -/
def replyType (a : Nibble) (ty : Byte) (s : State) : State := sendReply a subType [ty, typeReplyByte] s

/-- The Value reply `[0x06, 0xA0 + a, lo8(value), hi8(value), C_lo, C_hi]` (R80, R156). -/
def replyValue (a : Nibble) (v : Half) (s : State) : State := sendReply a subValue [lo8 v, hi8 v] s

/-- REPLY_DISCOVER (R154). -/
def execReplyDiscover (a : Nibble) (s : State) : Host.Outcome State Fault Refusal := .next (replyDiscover a s)

/-- REPLY_TYPE (R155). -/
def execReplyType (a : Nibble) (ty : Byte) (s : State) : Host.Outcome State Fault Refusal := .next (replyType a ty s)

/-- REPLY_VALUE (R156). -/
def execReplyValue (a : Nibble) (v : Half) (s : State) : Host.Outcome State Fault Refusal := .next (replyValue a v s)

end Sys2Proof.Machine
end

