-- ==== Sys2Proof/Machine/Telemetry.lean ====
section
/-!
DEFINITION. The polls and the frames without effect (spec/42_telemetry.md). They run inside the CHECKSUM_HIGH step
(R150). A poll that is not dispatched in the state it meets (telemetry disabled, or the slot not registered) is row 6 of
R77, IGNORED, and the poll's meaning does there what row 6 says (log 10).
-/

namespace Sys2Proof.Machine

/-- IGNORED: the observation, and nothing else (R158). -/
def ignoreFrame (cmd : Byte) (s : State) : State := observe (.frameIgnored cmd) s

/-- POLL_UNKNOWN: the observation, and nothing else (R157). -/
def unknownPoll (cmd : Byte) (s : State) : State := observe (.unknownSensorSubcommand cmd) s

/-- An answered Discover poll (R154). -/
def answerDiscover (a : Nibble) (s : State) : State :=
  observe (.pollAnswered a subDiscover) (replyDiscover a (countPoll [.discoverOnly, .allAnswered] s))

/-- An answered Type poll (R155). -/
def answerType (a : Nibble) (s : State) : State :=
  observe (.pollAnswered a subType) (replyType a (readSensor a.toNat s).type (countPoll [.allAnswered] s))

/-- An answered Value poll (R156). -/
def answerValue (a : Nibble) (s : State) : State :=
  observe (.pollAnswered a subValue)
    (replyValue a (readSensor a.toNat s).value (countPoll [.allAnswered] (countValueReply s)))

/-- POLL_DISCOVER (R154). -/
def execPollDiscover (a : Nibble) (s : State) : Host.Outcome State Fault Refusal :=
  .next (if pollDispatched a s then answerDiscover a s else ignoreFrame (commandByte subDiscover a) s)

/-- POLL_TYPE (R155). -/
def execPollType (a : Nibble) (s : State) : Host.Outcome State Fault Refusal :=
  .next (if pollDispatched a s then answerType a s else ignoreFrame (commandByte subType a) s)

/-- POLL_VALUE (R156). -/
def execPollValue (a : Nibble) (s : State) : Host.Outcome State Fault Refusal :=
  .next (if pollDispatched a s then answerValue a s else ignoreFrame (commandByte subValue a) s)

/-- POLL_UNKNOWN (R157). -/
def execPollUnknown (cmd : Byte) (s : State) : Host.Outcome State Fault Refusal :=
  .next (if pollDispatched (cmdAddr cmd) s then unknownPoll cmd s else ignoreFrame cmd s)

/-- IGNORED (R158). Its data bytes are not looked at. -/
def execIgnored (cmd : Byte) (_data : List Byte) (s : State) : Host.Outcome State Fault Refusal :=
  .next (ignoreFrame cmd s)

end Sys2Proof.Machine
end

