-- ==== Sys2Proof/Machine/Decoder.lean ====
section
/-!
DEFINITION. RX_BYTE and its per-state rows (spec/40_frame_decoder.md). Every row's event is an RX_BYTE event: the gap
rule runs first, then the one rule that the decoder state selects (R101). A row's word is RX_BYTE's word, so in a state
that selects another row the byte does what that other row says (log 9).
-/

namespace Sys2Proof.Machine

/-- A validated frame's operation (R77, R106). -/
def dispatchFrame (s : State) : State :=
  match frameOp s with
  | .setChannels data => setChannels data s
  | .pollDiscover a => answerDiscover a s
  | .pollType a => answerType a s
  | .pollValue a => answerValue a s
  | .pollUnknown cmd => unknownPoll cmd s
  | .ignored cmd _ => ignoreFrame cmd s

/-- LengthByte, accept (R102). -/
def lengthAccept (b : Byte) (s : State) : State :=
  { s with
    ptr := 0#5
    plen := BitVec.ofNat 5 (b.toNat - s.cfg.overhead)
    acc := 0xFFFF#16 - b.setWidth 16
    dstate := .accumulatingPayload }

/-- LengthByte, reject (R103, R223). -/
def lengthReject (b : Byte) (s : State) : State :=
  enterDiscarding (observe (.invalidLength b) (countLengthError s))

/-- PayloadByte (R104). -/
def payloadByte (b : Byte) (s : State) : State :=
  { writeBuf s.ptr.toNat b s with
    ptr := s.ptr + 1#5
    acc := s.acc - b.setWidth 16
    dstate := if s.ptr + 1#5 = s.plen then .awaitingChecksumLow else s.dstate }

/-- ChecksumLow (R105). -/
def checksumLow (b : Byte) (s : State) : State := { s with rxLo := b, dstate := .awaitingChecksumHigh }

/-- ChecksumHigh: the checksum validator, then the dispatch or the silent drop, then Discarding (R106 to R108, R110,
R224). -/
def checksumHigh (b : Byte) (s : State) : State :=
  enterDiscarding
    (if checksumMatch b s then dispatchFrame s else observe (.checksumMismatch (receivedChecksum b s) s.acc) s)

/-- Discard: the byte is ignored (R109). -/
def discardByte (_b : Byte) (s : State) : State := s

/-- The rule of a row. -/
def rowRule (r : RxRow) (b : Byte) (s : State) : State :=
  match r with
  | .lengthAccept => lengthAccept b s
  | .lengthReject => lengthReject b s
  | .payload => payloadByte b s
  | .checksumLow => checksumLow b s
  | .checksumHigh => checksumHigh b s
  | .discard => discardByte b s

/-- The rule that the decoder state selects (R101, R111). -/
def perState (b : Byte) (s : State) : State := rowRule (selectRx s.cfg s.dstate b) b s

/-- A row's rule where the decoder state selects the row, and the selected rule where it selects another. -/
def onRow (r : RxRow) (rule : State → State) (b : Byte) (s : State) : State :=
  if selectRx s.cfg s.dstate b = r then rule s else perState b s

/-- RX_BYTE (R101). -/
def execRxByte (b : Byte) (t : Millis) (s : State) : Host.Outcome State Fault Refusal :=
  afterInit s (perState b (gapRule t s))

/-- RX_BYTE.LENGTH_ACCEPT (R102). -/
def execRxLengthAccept (b : Byte) (t : Millis) (s : State) : Host.Outcome State Fault Refusal :=
  afterInit s (onRow .lengthAccept (lengthAccept b) b (gapRule t s))

/-- RX_BYTE.LENGTH_REJECT (R103). -/
def execRxLengthReject (b : Byte) (t : Millis) (s : State) : Host.Outcome State Fault Refusal :=
  afterInit s (onRow .lengthReject (lengthReject b) b (gapRule t s))

/-- RX_BYTE.PAYLOAD (R104). -/
def execRxPayload (b : Byte) (t : Millis) (s : State) : Host.Outcome State Fault Refusal :=
  afterInit s (onRow .payload (payloadByte b) b (gapRule t s))

/-- RX_BYTE.CHECKSUM_LOW (R105). -/
def execRxChecksumLow (b : Byte) (t : Millis) (s : State) : Host.Outcome State Fault Refusal :=
  afterInit s (onRow .checksumLow (checksumLow b) b (gapRule t s))

/-- RX_BYTE.CHECKSUM_HIGH (R106). -/
def execRxChecksumHigh (b : Byte) (t : Millis) (s : State) : Host.Outcome State Fault Refusal :=
  afterInit s (onRow .checksumHigh (checksumHigh b) b (gapRule t s))

/-- RX_BYTE.DISCARD (R109). -/
def execRxDiscard (b : Byte) (t : Millis) (s : State) : Host.Outcome State Fault Refusal :=
  afterInit s (onRow .discard (discardByte b) b (gapRule t s))

end Sys2Proof.Machine
end

