-- ==== Sys2Proof/Machine/HostPort.lean ====
section
/-!
DEFINITION. The host operations (spec/43_host_interface.md) and the reserved events (spec/30_encoding.md R91). No host
operation but INIT reads or writes the frame-assembly state (R196).
-/

namespace Sys2Proof.Machine

/-- The content that INIT leaves unspecified (R37, R38, R190): free values (log 3). -/
def freeAfterInit (s : State) : State :=
  { s with
    plen := Config.freeValue 5 .plen s.freeDraws s.plen
    ptr := Config.freeValue 5 .ptr s.freeDraws s.ptr
    acc := Config.freeValue 16 .acc s.freeDraws s.acc
    rxLo := Config.freeValue 8 .rxLo s.freeDraws s.rxLo
    buf := Vector.ofFn fun i : Fin 29 => Config.freeValue 8 (.buf i) s.freeDraws s.buf[i]
    sens := Vector.ofFn fun i : Fin 15 =>
      ⟨Config.freeValue 8 (.sensType i) s.freeDraws s.sens[i].type,
        Config.freeValue 16 (.sensValue i) s.freeDraws s.sens[i].value⟩
    freeDraws := s.freeDraws + 1 }

/-- INIT, accepted at any time (R190, R250). -/
def execInit (en : Bool) (t : Millis) (s : State) : Host.Outcome State Fault Refusal :=
  .next
    { freeAfterInit s with
      initDone := true
      dstate := .discarding
      lastMs := t
      ch := Vector.replicate 10 0#16
      sensorCount := 0
      telemetryEnable := en
      cntRec := 0#32
      cntLenerr := 0#32
      cntPoll := 0#32
      cntSensor := 0#32 }

/-- READ_CHANNEL (R191). -/
def execReadChannel (i : Byte) (s : State) : Host.Outcome State Fault Refusal :=
  afterInit s (returnResult (.channel (if i.toNat < s.cfg.channels then readCh i.toNat s else 0#16)) s)

/-- The registration of a sensor below capacity: the next slot, its type, the value 0 (R192). -/
def appendSensor (ty : Byte) (s : State) : State :=
  writeSensor (s.sensorCount + 1) ⟨ty, 0#16⟩ { s with sensorCount := s.sensorCount + 1 }

/-- REGISTER_SENSOR (R192, R226). The result is `sensor_count` after the operation in both cases. -/
def execRegisterSensor (ty : Byte) (s : State) : Host.Outcome State Fault Refusal :=
  let s' := if s.sensorCount < s.cfg.sensorCapacity then appendSensor ty s else observe (.sensorOverflow ty) s
  afterInit s (returnResult (.slot s'.sensorCount) s')

/-- SET_SENSOR_VALUE (R193). -/
def execSetSensorValue (slot : Byte) (value : Half) (s : State) : Host.Outcome State Fault Refusal :=
  afterInit s
    (if 1 ≤ slot.toNat ∧ slot.toNat ≤ s.sensorCount then writeSensorValue slot.toNat value s
      else observe (.sensorSlotOutOfRange slot) s)

/-- READ_COUNTER (R195): a number above 3 is refused. -/
def execReadCounter (k : Byte) (s : State) : Host.Outcome State Fault Refusal :=
  match readCnt k.toNat s with
  | some v => afterInit s (returnResult (.counter v) s)
  | none => if s.initDone then .refused (.counterNumber k) else .refused .beforeInit

/-- RESERVED_OP_110: refused (R91). -/
def execReservedOp110 (_x : BitVec 61) (_s : State) : Host.Outcome State Fault Refusal :=
  .refused .reservedOperation

/-- RESERVED_OP_111: refused (R91). -/
def execReservedOp111 (_x : BitVec 61) (_s : State) : Host.Outcome State Fault Refusal :=
  .refused .reservedOperation

end Sys2Proof.Machine
end

