-- ==== Sys2Proof/Machine/Dispatch.lean ====
section
/-! DEFINITION. The meaning of every row of the opcode table: one arm per constructor of Instr. -/

namespace Sys2Proof.Machine

/-- One instruction's meaning in a state. -/
def exec (i : Instr) (s : State) : Host.Outcome State Fault Refusal :=
  match i with
  -- inbound frames (R77)
  | .setChannels data => Sys2Proof.Machine.execSetChannels data s
  | .pollDiscover a => Sys2Proof.Machine.execPollDiscover a s
  | .pollType a => Sys2Proof.Machine.execPollType a s
  | .pollValue a => Sys2Proof.Machine.execPollValue a s
  | .pollUnknown cmd => Sys2Proof.Machine.execPollUnknown cmd s
  | .ignored cmd data => Sys2Proof.Machine.execIgnored cmd data s
  -- outbound replies (R80)
  | .replyDiscover a => Sys2Proof.Machine.execReplyDiscover a s
  | .replyType a ty => Sys2Proof.Machine.execReplyType a ty s
  | .replyValue a v => Sys2Proof.Machine.execReplyValue a v s
  -- the rows of RX_BYTE (R101)
  | .rxLengthAccept b t => Sys2Proof.Machine.execRxLengthAccept b t s
  | .rxLengthReject b t => Sys2Proof.Machine.execRxLengthReject b t s
  | .rxPayload b t => Sys2Proof.Machine.execRxPayload b t s
  | .rxChecksumLow b t => Sys2Proof.Machine.execRxChecksumLow b t s
  | .rxChecksumHigh b t => Sys2Proof.Machine.execRxChecksumHigh b t s
  | .rxDiscard b t => Sys2Proof.Machine.execRxDiscard b t s
  -- events (R90)
  | .init en t => Sys2Proof.Machine.execInit en t s
  | .rxByte b t => Sys2Proof.Machine.execRxByte b t s
  | .readChannel n => Sys2Proof.Machine.execReadChannel n s
  | .registerSensor ty => Sys2Proof.Machine.execRegisterSensor ty s
  | .setSensorValue slot value => Sys2Proof.Machine.execSetSensorValue slot value s
  | .readCounter k => Sys2Proof.Machine.execReadCounter k s
  | .reservedOp110 x => Sys2Proof.Machine.execReservedOp110 x s
  | .reservedOp111 x => Sys2Proof.Machine.execReservedOp111 x s

end Sys2Proof.Machine
end

