-- ==== Sys2Proof/Machine/Fetch.lean ====
section
/-!
DEFINITION. Where the step finds its next event (spec/20_memory.md R61, R65: nothing is fetched from memory; events come
from the environment, in an order the environment fixes), and how an instruction of the opcode table is placed so that
the very next step runs it (log 7, log 12).
-/

namespace Sys2Proof.Machine

/-- The environment offers events, after those it offered before (R61). -/
def offerEvents (es : List EventWord) (s : State) : State := { s with events := s.events ++ es }

/-- The oldest event not yet taken, and the state without it. -/
def nextEvent (s : State) : Option (EventWord × State) :=
  match s.events with
  | [] => none
  | e :: rest => some (e, { s with events := rest })

/-- Put `e` where the step takes its next event. -/
def pushEvent (e : EventWord) (s : State) : State := { s with events := e :: s.events }

/-- Store a frame's payload at the start of the buffer. -/
def fillBuf (payload : List Byte) (s : State) : State :=
  { s with buf := Vector.ofFn fun i : Fin 29 => payload[i.val]?.getD s.buf[i] }

/-- Make slot `a` a registered slot of a block that answers polls, if it is one a poll can name (R151, R163). -/
def enablePoll (a : Nibble) (s : State) : State :=
  if a = 0#4 then s
  else
    { s with
      telemetryEnable := true
      sensorCount := max s.sensorCount a.toNat
      cfg := { s.cfg with sensorCapacity := max s.cfg.sensorCapacity a.toNat } }

/-- The state in which every byte of the frame has been received but its checksum's high byte, which is the next event,
at the time of the byte before it: the next step validates and dispatches the frame (R106). -/
def placeFrame (cmd : Byte) (data : List Byte) (s : State) : State :=
  let c := checksum (frameLength s.cfg data :: cmd :: data)
  pushEvent (rxWord (hi8 c) s.lastMs)
    { fillBuf (cmd :: data) s with
      initDone := true
      dstate := .awaitingChecksumHigh
      plen := BitVec.ofNat 5 (data.length + 1)
      ptr := BitVec.ofNat 5 (data.length + 1)
      acc := c
      rxLo := lo8 c }

/-- The 4-byte poll frame with command byte `cmd`, about to be dispatched. -/
def placePoll (cmd : Byte) (s : State) : State := placeFrame cmd [] (enablePoll (cmdAddr cmd) s)

/-- Place an encoding so that the very next step runs its instruction. A reply is run by the poll that it answers, of a
slot that holds what the reply carries. -/
def placeCode (c : Code) (s : State) : State :=
  match c with
  | .event e => pushEvent e s
  | .rxEvent d e => pushEvent e { s with dstate := d, lastMs := e.extractLsb' 32 32 }
  | .inbound _ _ bytes =>
    match decodeFrame s.cfg bytes with
    | .ok (cmd, data) => placeFrame cmd data (enablePoll (cmdAddr cmd) s)
    | .error _ => s
  | .outbound bytes =>
    match decodeFrame s.cfg bytes with
    | .error _ => s
    | .ok (cmd, data) =>
      let a := (cmdAddr cmd).toNat
      let old := readSensor a s
      let entry : Sensor :=
        if cmdSub cmd = subType then { old with type := data[0]?.getD 0#8 }
        else if cmdSub cmd = subValue then { old with value := u16 (data[0]?.getD 0#8) (data[1]?.getD 0#8) }
        else old
      placePoll cmd (writeSensor a entry s)

end Sys2Proof.Machine
end

