-- ==== Sys2Proof/Machine/Step.lean ====
section
/-! DEFINITION. One step of the block: one input event, atomically (spec/00_scope.md R11; spec/30_encoding.md R90). -/

namespace Sys2Proof.Machine

/-- One step. A configuration that R8 forbids is refused. With no event waiting the block "is idle between events and
keeps all state" (R238). An event that the decoder rejects is refused (R91). -/
def step (s : State) : Host.Outcome State Fault Refusal :=
  if s.cfg.legal then
    match nextEvent s with
    | none => .next s
    | some (e, s') =>
      match decodeEvent e with
      | .ok i => exec i s'
      | .error r => .refused (.undecodable r)
  else .refused .illegalConfiguration

/-- `s` with an instruction of the opcode table placed so that the very next step runs it (log 12). -/
def State.withFetchWord (s : State) (nbits w : Nat) : State := placeCode (tableCode nbits w) s

end Sys2Proof.Machine
end

