-- ==== Sys2Proof/Safety.lean ====
section
/-!
DEFINITION. What claims about runs are stated in: the invariant of the states a legal run reaches, and the events that a
step may refuse (spec/60_exceptions.md R220, R239).
-/

namespace Sys2Proof.Machine

/-- The payload bytes stored so far in the current frame (R23, R26). -/
def storedPayload (s : State) : List Byte := s.buf.toList.take s.ptr.toNat

/-- The length byte that gave `plen` (R102): `plen + P_OVERHEAD`. -/
def frameLengthByte (s : State) : Byte := BitVec.ofNat 8 (s.plen.toNat + s.cfg.overhead)

/-- The accumulator holds `0xFFFF − L − Σ` of the payload bytes stored so far (R24, R74). -/
def accInStep (s : State) : Prop := s.acc = checksum (frameLengthByte s :: storedPayload s)

/-- The frame-assembly registers in each decoder state: `plen` in 1..`P_PAYLOAD_MAX` and `ptr` below it while the
payload is being stored (R22, R23, R104), `ptr = plen` while the checksum is awaited, and the accumulator in step. -/
def assemblyOk (s : State) : Prop :=
  match s.dstate with
  | .awaitingLength => True
  | .accumulatingPayload => s.plen.toNat ≤ s.cfg.payloadMax ∧ s.ptr.toNat < s.plen.toNat ∧ accInStep s
  | .awaitingChecksumLow => 1 ≤ s.plen.toNat ∧ s.plen.toNat ≤ s.cfg.payloadMax ∧ s.ptr = s.plen ∧ accInStep s
  | .awaitingChecksumHigh => 1 ≤ s.plen.toNat ∧ s.plen.toNat ≤ s.cfg.payloadMax ∧ s.ptr = s.plen ∧ accInStep s
  | .discarding => True

/-- The registered sensors fit the configuration, which is legal (R8, R29). -/
def registryOk (s : State) : Prop := s.cfg.legal = true ∧ s.sensorCount ≤ s.cfg.sensorCapacity

/-- The invariant of the states that a legal run reaches. -/
def Inv (s : State) : Prop := registryOk s ∧ assemblyOk s

/-- The events that a step never refuses after INIT: the well-encoded ones but READ_COUNTER of a number above 3 (R220,
R239). -/
def mayRun (i : Instr) : Bool :=
  match i with
  | .setChannels _ => true
  | .pollDiscover _ => true
  | .pollType _ => true
  | .pollValue _ => true
  | .pollUnknown _ => true
  | .ignored _ _ => true
  | .replyDiscover _ => true
  | .replyType _ _ => true
  | .replyValue _ _ => true
  | .rxLengthAccept _ _ => true
  | .rxLengthReject _ _ => true
  | .rxPayload _ _ => true
  | .rxChecksumLow _ _ => true
  | .rxChecksumHigh _ _ => true
  | .rxDiscard _ _ => true
  | .init _ _ => true
  | .rxByte _ _ => true
  | .readChannel _ => true
  | .registerSensor _ => true
  | .setSensorValue _ _ => true
  | .readCounter k => decide (k.toNat < 4)
  | .reservedOp110 _ => false
  | .reservedOp111 _ => false

/-- The bits of an event word that are no field of the operation in its low three bits (R90): "every bit not named as a
field of the selected event is reserved". -/
def reservedBits (op : BitVec 3) : EventWord :=
  if op = 0#3 then 0x00000000FFFFFFF0#64
  else if op = 1#3 then 0x00000000FFFF00F8#64
  else if op = 4#3 then 0xFFFFFFFF000000F8#64
  else if op = 6#3 ∨ op = 7#3 then 0xFFFFFFFFFFFFFFF8#64
  else 0xFFFFFFFFFFFF00F8#64

/-! ### What a run can show of the state (R36, R37) -/

/-- The state with the elements that R37 names blanked: the frame-assembly registers and the registry's entries. -/
def publicView (s : State) : State :=
  { s with
    plen := 0#5
    ptr := 0#5
    acc := 0#16
    rxLo := 0#8
    buf := Vector.replicate 29 0#8
    sens := Vector.replicate 15 ⟨0#8, 0#16⟩ }

/-- Two states whose current frame is the same, as far as the decoder state says one has been received (R37). -/
def sameFrame (s₁ s₂ : State) : Prop :=
  match s₁.dstate with
  | .awaitingLength => True
  | .accumulatingPayload =>
    s₁.plen = s₂.plen ∧ s₁.ptr = s₂.ptr ∧ s₁.acc = s₂.acc ∧ ∀ k, k < s₁.ptr.toNat → readBuf k s₁ = readBuf k s₂
  | .awaitingChecksumLow =>
    s₁.plen = s₂.plen ∧ s₁.acc = s₂.acc ∧ ∀ k, k < s₁.plen.toNat → readBuf k s₁ = readBuf k s₂
  | .awaitingChecksumHigh =>
    s₁.plen = s₂.plen ∧ s₁.acc = s₂.acc ∧ s₁.rxLo = s₂.rxLo ∧ ∀ k, k < s₁.plen.toNat → readBuf k s₁ = readBuf k s₂
  | .discarding => True

/-- Two states whose registered sensors are the same (R30, R37). -/
def sameRegistry (s₁ s₂ : State) : Prop :=
  ∀ slot, 1 ≤ slot → slot ≤ s₁.sensorCount → readSensor slot s₁ = readSensor slot s₂

/-- Two states that differ at most in content R37 calls unspecified and never read before it is written. -/
def Agree (s₁ s₂ : State) : Prop := publicView s₁ = publicView s₂ ∧ sameFrame s₁ s₂ ∧ sameRegistry s₁ s₂

end Sys2Proof.Machine
end

