-- ==== Sys2Proof/Certificates/Slice0/Obligations.lean ====
section
/-!
DEFINITION. The statements for the provers. Each docstring names the rules of spec/ it rests on, and the log entry where
a clause is the model's own choice.
-/

open Sys2Proof Sys2Proof.Machine

/-! ## Encodings -/

/-- R7, R70, R77, R80, R90, R111: in every legal configuration, decoding the encoding of a well-formed instruction, of
any of the 23 rows, gives it back. -/
def Obligations.DecodeInvertsEncode : Prop :=
  ∀ (c : Config) (i : Instr), c.legal = true → i.wf c = true → decode c (encode c i) = .ok i

/-- R90: an event word stands for one event; what it decodes to encodes to it, so no bit of the word is dropped. -/
def Obligations.EventWordHasOneMeaning : Prop :=
  ∀ (c : Config) (e : EventWord) (i : Instr), decodeEvent e = .ok i → encode c i = .event e

/-- R70 to R73: a byte sequence that decodes as a frame is the frame of its command byte and data bytes, and has at most
`P_MAX_LENGTH − P_OVERHEAD` payload bytes. -/
def Obligations.FrameBytesHaveOneMeaning : Prop :=
  ∀ (c : Config) (bytes : List Byte) (cmd : Byte) (data : List Byte), decodeFrame c bytes = .ok (cmd, data) →
    bytes = encodeFrame c cmd data ∧ data.length + 1 ≤ c.maxLength - c.overhead

/-- R91: an event with op 110 or 111, or with a reserved bit set, is refused, in every state, and a run that meets it is
refused however long it goes on. -/
def Obligations.ReservedEventsAreRefused : Prop :=
  ∀ (s : State) (e : EventWord) (rest : List EventWord), s.events = e :: rest →
    (e.extractLsb' 0 3 = 6#3 ∨ e.extractLsb' 0 3 = 7#3 ∨ e &&& reservedBits (e.extractLsb' 0 3) ≠ 0#64) →
    ∃ r, step s = .refused r ∧
      ∀ k, (Host.Core.run Sys2Proof.core (k + 1) s : Host.Outcome State Fault Refusal) = .refused r

/-- R90: an event word with op 000 to 101 and no reserved bit set decodes. -/
def Obligations.WellSpelledEventsDecode : Prop :=
  ∀ e : EventWord, (e.extractLsb' 0 3).toNat ≤ 5 → e &&& reservedBits (e.extractLsb' 0 3) = 0#64 →
    ∃ i, decodeEvent e = .ok i

/-- R90: the words that the spec writes out (V-E1 to V-E7) decode to the events it names, and the W2 poll, received and
sent, to POLL_DISCOVER and REPLY_DISCOVER of slot 1. -/
def Obligations.WrittenOutWordsDecode : Prop :=
  decodeEvent 0x0000000000000008#64 = .ok (.init true 0#32) ∧
  decodeEvent 0x000003E800000000#64 = .ok (.init false 1000#32) ∧
  decodeEvent 0x0000000A00008101#64 = .ok (.rxByte 0x81#8 10#32) ∧
  decodeEvent 0x000000000000FF02#64 = .ok (.readChannel 255#8) ∧
  decodeEvent 0x0000000000000203#64 = .ok (.registerSensor 0x02#8) ∧
  decodeEvent 0x0000000001230104#64 = .ok (.setSensorValue 1#8 0x0123#16) ∧
  decodeEvent 0x0000000000000305#64 = .ok (.readCounter 3#8) ∧
  decode Config.standard (.inbound true 1 [0x04#8, 0x81#8, 0x7A#8, 0xFF#8]) = .ok (.pollDiscover 1#4) ∧
  decode Config.standard (.outbound [0x04#8, 0x81#8, 0x7A#8, 0xFF#8]) = .ok (.replyDiscover 1#4)

/-! ## Checksum and byte order -/

/-- R72: the checksum of a length byte and a payload is `(0xFFFF − ((L + Σ P) mod 2^16)) mod 2^16` as numbers, and for a
frame with `L ≤ 0x20` the sum is at most 7427, so it is not truncated. -/
def Obligations.ChecksumIsTheComplementedSum : Prop :=
  ∀ (l : Byte) (payload : List Byte),
    let total := l.toNat + (payload.map BitVec.toNat).sum
    (checksum (l :: payload)).toNat = (0xFFFF - total % 2 ^ 16) % 2 ^ 16 ∧
      (l.toNat ≤ 0x20 → payload.length + 3 = l.toNat → total ≤ 7427 ∧ total < 2 ^ 16)

/-- R24, R74, R102, R104: the running accumulator, started at `0xFFFF − L` and lowered by each payload byte modulo 2^16,
ends at the checksum of R72. -/
def Obligations.AccumulatorEndsAtTheChecksum : Prop :=
  ∀ (l : Byte) (payload : List Byte),
    payload.foldl (fun a b => a - b.setWidth 16) (0xFFFF#16 - l.setWidth 16) = checksum (l :: payload)

/-- R9, R53, R54: `u16` assembles `hi·256 + lo`, `lo8` and `hi8` split it again, low byte first. -/
def Obligations.WireByteOrderIsLittleEndian : Prop :=
  ∀ (lo hi : Byte) (v : Half), (u16 lo hi).toNat = hi.toNat * 256 + lo.toNat ∧ lo8 (u16 lo hi) = lo ∧
    hi8 (u16 lo hi) = hi ∧ u16 (lo8 v) (hi8 v) = v

/-- R152: a reply frame's length byte, command byte and checksum as numbers, its byte order, and that it passes the
block's own validator. A frame holds at most `P_PAYLOAD_MAX` payload bytes, the command byte among them (R71). -/
def Obligations.EncodedReplyPassesTheValidator : Prop :=
  ∀ (cfg : Config) (a : Nibble) (sub : Byte) (data : List Byte), cfg.legal = true → data.length + 1 ≤ cfg.payloadMax →
    ∃ (l cmd : Byte) (c : Half),
      l.toNat = cfg.overhead + 1 + data.length ∧ cmd.toNat = (sub.toNat + a.toNat) % 2 ^ 8 ∧
      c.toNat = (0xFFFF - (l.toNat + cmd.toNat + (data.map BitVec.toNat).sum) % 2 ^ 16) % 2 ^ 16 ∧
      encodeReply cfg a sub data = [l, cmd] ++ data ++ [lo8 c, hi8 c] ∧
      decodeFrame cfg (encodeReply cfg a sub data) = .ok (cmd, data)

/-! ## Selection -/

/-- R77: the six rows of the inbound operation map, in order, each under its condition, and that row 1 and rows 2 to 5
can never both match. -/
def Obligations.InboundOperationMap : Prop :=
  ∀ (en : Bool) (count plen : Nat) (cmd : Byte) (data : List Byte),
    let addr := cmd.toNat % 16
    let sub := cmd.toNat / 16 * 16
    let poll := plen = 1 ∧ en = true ∧ 1 ≤ addr ∧ addr ≤ count
    let slot : Nibble := BitVec.ofNat 4 addr
    (cmd.toNat = 0x40 → classify en count plen cmd data = .setChannels data) ∧
    (poll → sub = 0x80 → classify en count plen cmd data = .pollDiscover slot) ∧
    (poll → sub = 0x90 → classify en count plen cmd data = .pollType slot) ∧
    (poll → sub = 0xA0 → classify en count plen cmd data = .pollValue slot) ∧
    (poll → sub ≠ 0x80 → sub ≠ 0x90 → sub ≠ 0xA0 → classify en count plen cmd data = .pollUnknown cmd) ∧
    (cmd.toNat ≠ 0x40 → ¬ poll → classify en count plen cmd data = .ignored cmd data) ∧
    ¬ (cmd.toNat = 0x40 ∧ poll)

/-! ## The step -/

/-- R11, R90: when the oldest event decodes to an instruction, the step is that instruction's meaning in the state
without the event, and nothing else. -/
def Obligations.StepRunsTheDecodedEvent : Prop :=
  ∀ (s : State) (e : EventWord) (rest : List EventWord) (i : Instr),
    s.cfg.legal = true → s.events = e :: rest → decodeEvent e = .ok i → step s = exec i { s with events := rest }

/-- R8: a configuration that breaks any of the three constraints is refused, in every state; R7's values satisfy them
all. Where the model refuses, at each step, is its own choice (log 6). -/
def Obligations.IllegalConfigurationIsRefused : Prop :=
  (∀ s : State,
    (15 < s.cfg.sensorCapacity ∨ (0xFF < s.cfg.maxLength ∨ s.cfg.maxLength ≤ s.cfg.overhead) ∨
        s.cfg.payloadMax < 2 * s.cfg.channels + 1) →
      step s = .refused .illegalConfiguration) ∧
    (∀ c : Config, c.overhead = 3 → c.maxLength = 0x20 → c.payloadMax = 29 → c.channels = 10 → c.sensorCapacity ≤ 15 →
      ¬ (15 < c.sensorCapacity ∨ (0xFF < c.maxLength ∨ c.maxLength ≤ c.overhead) ∨
        c.payloadMax < 2 * c.channels + 1))

/-- R39: while `init_done = 0` every event but INIT is refused; the first INIT answers a next state with `init_done`
1. -/
def Obligations.EventsBeforeInitAreRefused : Prop :=
  ∀ (s : State) (e : EventWord) (rest : List EventWord), s.initDone = false → s.events = e :: rest →
    ((∀ en t, decodeEvent e ≠ .ok (.init en t)) → ∃ r, step s = .refused r) ∧
    (∀ en t, s.cfg.legal = true → decodeEvent e = .ok (.init en t) → ∃ u, step s = .next u ∧ u.initDone = true)

/-- R220: after INIT the step answers a next state on every well-encoded event but READ_COUNTER of a number above 3. -/
def Obligations.WellEncodedEventsRunAfterInit : Prop :=
  ∀ (s : State) (e : EventWord) (rest : List EventWord) (i : Instr), s.cfg.legal = true → s.initDone = true →
    s.events = e :: rest → decodeEvent e = .ok i → mayRun i = true → ∃ u, step s = .next u

/-- R239: the step never faults, and refuses only for the listed reasons (R39, R91, R195) or a configuration that is
not legal. That last refusal is the model's choice: R8 asks a model to refuse, log 6 makes the step refuse and adds
the ranges of R7 and D17, and log 20 adds the size of the state; R239 does not list it. -/
def Obligations.RefusalsAreTheListedOnes : Prop :=
  ∀ s : State, (∀ f, step s ≠ .fault f) ∧
    ∀ r, step s = .refused r →
      (r = .illegalConfiguration ∧ s.cfg.legal = false) ∨
      (r = .beforeInit ∧ s.initDone = false) ∨
      (∃ e rest, s.events = e :: rest ∧
        ((r = .reservedOperation ∧ 6 ≤ (e.extractLsb' 0 3).toNat) ∨
         (∃ x, r = .undecodable x ∧ e &&& reservedBits (e.extractLsb' 0 3) ≠ 0#64) ∨
         (∃ k : Byte, r = .counterNumber k ∧ 4 ≤ k.toNat ∧ decodeEvent e = .ok (.readCounter k))))

/-! ## RX_BYTE -/

/-- R100, R115: the gap rule. The comparison is strict and on the difference modulo 2^`P_CLOCK_BITS`; `last_ms` is
always written; a partial frame that is abandoned is observed; nothing else changes. -/
def Obligations.GapRuleResynchronises : Prop :=
  ∀ (t : Millis) (s : State),
    let gap := (t.toNat + 2 ^ 32 - s.lastMs.toNat) % 2 ^ 32 % 2 ^ s.cfg.clockBits
    (gap ≤ s.cfg.gapMs → gapRule t s = { s with lastMs := t }) ∧
    (s.cfg.gapMs < gap → gapRule t s =
      { s with
        lastMs := t
        dstate := .awaitingLength
        outcomes :=
          if s.dstate = .accumulatingPayload ∨ s.dstate = .awaitingChecksumLow ∨ s.dstate = .awaitingChecksumHigh then
            s.outcomes ++ [.frameAbandoned s.dstate]
          else s.outcomes })

/-- R101: RX_BYTE is the row that the decoder state after the gap rule selects. -/
def Obligations.RxByteRunsItsSelectedRow : Prop :=
  ∀ (b : Byte) (t : Millis) (s : State),
    exec (.rxByte b t) s = exec ((selectRx s.cfg (gapRule t s).dstate b).toInstr b t) s

/-- R102: a length byte above `P_OVERHEAD` and at most `P_MAX_LENGTH` (with R7's values 4..0x20) is accepted, by the
row and by RX_BYTE, and everything else is as the gap rule left it. -/
def Obligations.LengthByteIsAccepted : Prop :=
  ∀ (b : Byte) (t : Millis) (s : State), s.initDone = true → (gapRule t s).dstate = .awaitingLength →
    s.cfg.overhead < b.toNat → b.toNat ≤ s.cfg.maxLength →
    let u : State :=
      { gapRule t s with
        ptr := 0#5
        plen := BitVec.ofNat 5 (b.toNat - s.cfg.overhead)
        acc := 0xFFFF#16 - b.setWidth 16
        dstate := .accumulatingPayload }
    exec (.rxLengthAccept b t) s = .next u ∧ exec (.rxByte b t) s = .next u

/-- R103, R223: a length byte out of these bounds is counted and the decoder discards. -/
def Obligations.LengthByteIsRejected : Prop :=
  ∀ (b : Byte) (t : Millis) (s : State), s.initDone = true → (gapRule t s).dstate = .awaitingLength →
    (b.toNat ≤ s.cfg.overhead ∨ s.cfg.maxLength < b.toNat) →
    let g := gapRule t s
    let u : State :=
      { g with
        cntLenerr := BitVec.ofNat 32 ((g.cntLenerr.toNat + 1) % 2 ^ s.cfg.counterBits)
        outcomes := g.outcomes ++ [.invalidLength b]
        dstate := .discarding }
    exec (.rxLengthReject b t) s = .next u ∧ exec (.rxByte b t) s = .next u

/-- R104: a payload byte is stored at `buf[ptr]` and at no other index, counted, and taken from the accumulator; the
last one moves the decoder on. Everything else but `last_ms` is unchanged. -/
def Obligations.PayloadByteIsStored : Prop :=
  ∀ (b : Byte) (t : Millis) (s : State), s.initDone = true → s.dstate = .accumulatingPayload →
    (t - s.lastMs).toNat % 2 ^ s.cfg.clockBits ≤ s.cfg.gapMs → s.ptr.toNat < s.plen.toNat → s.plen.toNat ≤ 29 →
    ∃ u, exec (.rxPayload b t) s = .next u ∧ exec (.rxByte b t) s = .next u ∧
      (∀ k, k < 29 → readBuf k u = if k = s.ptr.toNat then b else readBuf k s) ∧
      u = { s with
        buf := u.buf
        lastMs := t
        ptr := s.ptr + 1#5
        acc := s.acc - b.setWidth 16
        dstate := if s.ptr.toNat + 1 = s.plen.toNat then .awaitingChecksumLow else .accumulatingPayload }

/-- R105: the checksum's low byte is stored, whatever it is. -/
def Obligations.ChecksumLowByteIsStored : Prop :=
  ∀ (b : Byte) (t : Millis) (s : State), s.initDone = true → s.dstate = .awaitingChecksumLow →
    (t - s.lastMs).toNat % 2 ^ s.cfg.clockBits ≤ s.cfg.gapMs →
    let u : State := { s with lastMs := t, rxLo := b, dstate := .awaitingChecksumHigh }
    exec (.rxChecksumLow b t) s = .next u ∧ exec (.rxByte b t) s = .next u

/-- R106, R107, R108, R110: the whole 16-bit received checksum is compared with the accumulator; on a match the frame's
operation runs, on a mismatch nothing is changed or counted but the observation, and in both cases the decoder ends in
Discarding. -/
def Obligations.ChecksumHighByteValidates : Prop :=
  ∀ (b : Byte) (t : Millis) (s : State), s.initDone = true → s.dstate = .awaitingChecksumHigh →
    (t - s.lastMs).toNat % 2 ^ s.cfg.clockBits ≤ s.cfg.gapMs →
    (u16 s.rxLo b = s.acc →
      ∃ u, exec (frameOp s).toInstr { s with lastMs := t } = .next u ∧
        exec (.rxChecksumHigh b t) s = .next { u with dstate := .discarding } ∧
        exec (.rxByte b t) s = .next { u with dstate := .discarding }) ∧
    (u16 s.rxLo b ≠ s.acc →
      let u : State :=
        { s with
          lastMs := t
          outcomes := s.outcomes ++ [.checksumMismatch (u16 s.rxLo b) s.acc]
          dstate := .discarding }
      exec (.rxChecksumHigh b t) s = .next u ∧ exec (.rxByte b t) s = .next u)

/-- R109: in Discarding, without a gap, a byte of any value changes `last_ms` alone. -/
def Obligations.DiscardedByteSetsTheTimeOnly : Prop :=
  ∀ (b : Byte) (t : Millis) (s : State), s.initDone = true → s.dstate = .discarding →
    (t - s.lastMs).toNat % 2 ^ s.cfg.clockBits ≤ s.cfg.gapMs →
    exec (.rxDiscard b t) s = .next { s with lastMs := t } ∧ exec (.rxByte b t) s = .next { s with lastMs := t }

/-- R111: the transition table, row by row, from the state the gap rule leaves. -/
def Obligations.DecoderFollowsTheTransitionTable : Prop :=
  ∀ (b : Byte) (t : Millis) (s : State), s.initDone = true →
    let d := if s.cfg.gapMs < (t - s.lastMs).toNat % 2 ^ s.cfg.clockBits then DState.awaitingLength else s.dstate
    ∃ u, exec (.rxByte b t) s = .next u ∧
      (d = .awaitingLength → s.cfg.overhead < b.toNat → b.toNat ≤ s.cfg.maxLength → u.dstate = .accumulatingPayload) ∧
      (d = .awaitingLength → (b.toNat ≤ s.cfg.overhead ∨ s.cfg.maxLength < b.toNat) → u.dstate = .discarding) ∧
      (d = .accumulatingPayload → s.ptr.toNat + 1 < s.plen.toNat → u.dstate = .accumulatingPayload) ∧
      (d = .accumulatingPayload → s.ptr.toNat + 1 = s.plen.toNat → u.dstate = .awaitingChecksumLow) ∧
      (d = .awaitingChecksumLow → u.dstate = .awaitingChecksumHigh) ∧
      (d = .awaitingChecksumHigh → u.dstate = .discarding) ∧
      (d = .discarding → u.dstate = .discarding) ∧
      u.dstate ≠ .awaitingLength

/-- R107: a received byte changes a channel, one of the counters of valid frames, or the transmit stream only as the
checksum's high byte of a frame whose checksum matches. -/
def Obligations.OnlyValidatedFramesReachTheOutputs : Prop :=
  ∀ (b : Byte) (t : Millis) (s u : State), exec (.rxByte b t) s = .next u →
    (u.ch ≠ s.ch ∨ u.cntRec ≠ s.cntRec ∨ u.cntPoll ≠ s.cntPoll ∨ u.cntSensor ≠ s.cntSensor ∨ u.tx ≠ s.tx) →
    s.dstate = .awaitingChecksumHigh ∧ (t - s.lastMs).toNat % 2 ^ s.cfg.clockBits ≤ s.cfg.gapMs ∧ u16 s.rxLo b = s.acc

/-- R33, R43, R52: a received byte never writes the sensor registry, the telemetry enable or a host result. -/
def Obligations.ReceivedBytesKeepTheHostSide : Prop :=
  ∀ (b : Byte) (t : Millis) (s u : State), exec (.rxByte b t) s = .next u →
    u.sens = s.sens ∧ u.sensorCount = s.sensorCount ∧ u.telemetryEnable = s.telemetryEnable ∧
      u.results = s.results ∧ u.initDone = s.initDone ∧ u.cfg = s.cfg ∧ u.events = s.events

/-! ## The control command -/

/-- R132: a channel below `P_CHANNELS` is written exactly where its pair is wholly present (`plen ≥ 2i + 3`, `plen`
being the data bytes and the command byte); every other channel keeps its value. The values come from this frame's
data alone. -/
def Obligations.SetChannelsStoresThePresentPairs : Prop :=
  ∀ (data : List Byte) (s : State), ∃ u, exec (.setChannels data) s = .next u ∧
    ∀ i, i < 10 →
      (i < s.cfg.channels → 2 * i + 3 ≤ data.length + 1 →
        readCh i u = u16 (data[2 * i]?.getD 0#8) (data[2 * i + 1]?.getD 0#8)) ∧
      (s.cfg.channels ≤ i ∨ data.length + 1 < 2 * i + 3 → readCh i u = readCh i s)

/-- R134, with the counter and the outcome of R131: SET_CHANNELS changes the channels, `cnt_rec` and the observation, in
one step, and nothing else. -/
def Obligations.SetChannelsWritesNothingElse : Prop :=
  ∀ (data : List Byte) (s : State), ∃ u, exec (.setChannels data) s = .next u ∧
    u = { s with
      ch := u.ch
      cntRec := BitVec.ofNat 32 ((s.cntRec.toNat + 1) % 2 ^ s.cfg.counterBits)
      outcomes := s.outcomes ++ [.controlAccepted] }

/-- R135: a 16-bit value sent low byte first as pair `i` of a control frame is stored as it is. -/
def Obligations.ChannelValuesAreStoredAsReceived : Prop :=
  ∀ (data : List Byte) (s : State) (i : Nat) (v : Half), i < s.cfg.channels → i < 10 →
    data[2 * i]? = some (lo8 v) → data[2 * i + 1]? = some (hi8 v) →
    ∃ u, exec (.setChannels data) s = .next u ∧ u.ch[i]? = some v

/-! ## Telemetry -/

/-- R154: a dispatched Discover poll counts under either scope, makes the guard pause and emits
`[L, 0x80 + a, C_lo, C_hi]` with `L = P_OVERHEAD + 1`, 0x04 with R7's value; nothing else changes. -/
def Obligations.DiscoverPollIsAnswered : Prop :=
  ∀ (a : Nibble) (s : State), s.telemetryEnable = true → 1 ≤ a.toNat → a.toNat ≤ s.sensorCount →
    let l : Byte := BitVec.ofNat 8 (s.cfg.overhead + 1)
    let cmd : Byte := 0x80#8 + a.setWidth 8
    let c : Half := 0xFFFF#16 - (l.setWidth 16 + cmd.setWidth 16)
    exec (.pollDiscover a) s = .next
      { s with
        cntPoll := BitVec.ofNat 32 ((s.cntPoll.toNat + 1) % 2 ^ s.cfg.counterBits)
        guards := s.guards ++ [⟨s.tx.length, s.cfg.guardUs⟩]
        tx := s.tx ++ [l, cmd, c.extractLsb' 0 8, c.extractLsb' 8 8]
        outcomes := s.outcomes ++ [.pollAnswered a 0x80#8] }

/-- R155: a dispatched Type poll emits `[L, 0x90 + a, type, 0x02, C_lo, C_hi]` with `L = P_OVERHEAD + 3`, 0x06 with R7's
value, after the guard pause. -/
def Obligations.TypePollIsAnswered : Prop :=
  ∀ (a : Nibble) (s : State), s.telemetryEnable = true → 1 ≤ a.toNat → a.toNat ≤ s.sensorCount →
    let l : Byte := BitVec.ofNat 8 (s.cfg.overhead + 3)
    let cmd : Byte := 0x90#8 + a.setWidth 8
    let ty : Byte := (readSensor a.toNat s).type
    let c : Half := 0xFFFF#16 - (l.setWidth 16 + cmd.setWidth 16 + ty.setWidth 16 + 0x02#16)
    exec (.pollType a) s = .next
      { s with
        cntPoll :=
          if s.cfg.pollCountScope = .allAnswered then BitVec.ofNat 32 ((s.cntPoll.toNat + 1) % 2 ^ s.cfg.counterBits)
          else s.cntPoll
        guards := s.guards ++ [⟨s.tx.length, s.cfg.guardUs⟩]
        tx := s.tx ++ [l, cmd, ty, 0x02#8, c.extractLsb' 0 8, c.extractLsb' 8 8]
        outcomes := s.outcomes ++ [.pollAnswered a 0x90#8] }

/-- R156: a dispatched Value poll counts in `cnt_sensor` and emits
`[L, 0xA0 + a, value[7:0], value[15:8], C_lo, C_hi]` with `L = P_OVERHEAD + 3`, 0x06 with R7's value, after the guard
pause. -/
def Obligations.ValuePollIsAnswered : Prop :=
  ∀ (a : Nibble) (s : State), s.telemetryEnable = true → 1 ≤ a.toNat → a.toNat ≤ s.sensorCount →
    let l : Byte := BitVec.ofNat 8 (s.cfg.overhead + 3)
    let cmd : Byte := 0xA0#8 + a.setWidth 8
    let v : Half := (readSensor a.toNat s).value
    let lo : Byte := v.extractLsb' 0 8
    let hi : Byte := v.extractLsb' 8 8
    let c : Half := 0xFFFF#16 - (l.setWidth 16 + cmd.setWidth 16 + lo.setWidth 16 + hi.setWidth 16)
    exec (.pollValue a) s = .next
      { s with
        cntSensor := BitVec.ofNat 32 ((s.cntSensor.toNat + 1) % 2 ^ s.cfg.counterBits)
        cntPoll :=
          if s.cfg.pollCountScope = .allAnswered then BitVec.ofNat 32 ((s.cntPoll.toNat + 1) % 2 ^ s.cfg.counterBits)
          else s.cntPoll
        guards := s.guards ++ [⟨s.tx.length, s.cfg.guardUs⟩]
        tx := s.tx ++ [l, cmd, lo, hi, c.extractLsb' 0 8, c.extractLsb' 8 8]
        outcomes := s.outcomes ++ [.pollAnswered a 0xA0#8] }

/-- R157, R225: a dispatched poll with an unknown sub-command has no effect: no reply, no counter, only the
observation. -/
def Obligations.UnknownPollHasNoEffect : Prop :=
  ∀ (cmd : Byte) (s : State), s.telemetryEnable = true → 1 ≤ cmd.toNat % 16 → cmd.toNat % 16 ≤ s.sensorCount →
    exec (.pollUnknown cmd) s = .next { s with outcomes := s.outcomes ++ [.unknownSensorSubcommand cmd] }

/-- R158: an IGNORED frame has no effect at all but the observation. -/
def Obligations.IgnoredFrameHasNoEffect : Prop :=
  ∀ (cmd : Byte) (data : List Byte) (s : State),
    exec (.ignored cmd data) s = .next { s with outcomes := s.outcomes ++ [.frameIgnored cmd] }

/-- R77 row 6, R151, R158: a poll met in a state that does not dispatch it does what IGNORED does. That the poll's own
meaning says so is the model's choice (log 10); the operation map never selects it there. -/
def Obligations.UndispatchedPollIsIgnored : Prop :=
  ∀ (a : Nibble) (cmd : Byte) (s : State), (s.telemetryEnable = false ∨ a = 0#4 ∨ s.sensorCount < a.toNat) →
    exec (.pollDiscover a) s = exec (.ignored (0x80#8 + a.setWidth 8) []) s ∧
    exec (.pollType a) s = exec (.ignored (0x90#8 + a.setWidth 8) []) s ∧
    exec (.pollValue a) s = exec (.ignored (0xA0#8 + a.setWidth 8) []) s ∧
    (cmd.extractLsb' 0 4 = a → exec (.pollUnknown cmd) s = exec (.ignored cmd []) s)

/-- R160: `cnt_poll` counts each dispatched Discover poll under either scope, each dispatched Type and Value poll under
AllAnswered only, and, in every state, never a POLL_UNKNOWN or an IGNORED frame. -/
def Obligations.PollCounterFollowsItsScope : Prop :=
  ∀ s u : State,
    let next : Counter := BitVec.ofNat 32 ((s.cntPoll.toNat + 1) % 2 ^ s.cfg.counterBits)
    (∀ a : Nibble, s.telemetryEnable = true → 1 ≤ a.toNat → a.toNat ≤ s.sensorCount →
      (exec (.pollDiscover a) s = .next u → u.cntPoll = next) ∧
      (exec (.pollType a) s = .next u ∨ exec (.pollValue a) s = .next u →
        u.cntPoll = match s.cfg.pollCountScope with
          | .discoverOnly => s.cntPoll
          | .allAnswered => next)) ∧
    (∀ cmd data, exec (.pollUnknown cmd) s = .next u ∨ exec (.ignored cmd data) s = .next u → u.cntPoll = s.cntPoll)

/-- R80, R153: each reply makes one guard pause before its first byte, then appends exactly its bytes to the transmit
stream, and changes nothing else. -/
def Obligations.RepliesAreEmittedWhole : Prop :=
  ∀ (a : Nibble) (ty : Byte) (v : Half) (s : State),
    let sent (bytes : List Byte) : State :=
      { s with guards := s.guards ++ [⟨s.tx.length, s.cfg.guardUs⟩], tx := s.tx ++ bytes }
    exec (.replyDiscover a) s = .next (sent (encodeReply s.cfg a 0x80#8 [])) ∧
    exec (.replyType a ty) s = .next (sent (encodeReply s.cfg a 0x90#8 [ty, 0x02#8])) ∧
    exec (.replyValue a v) s = .next (sent (encodeReply s.cfg a 0xA0#8 [v.extractLsb' 0 8, v.extractLsb' 8 8]))

/-- R162: in a legal configuration, what an external decoder recovers from the bytes that a Type poll and a Value poll
append to the transmit stream is the slot with its type, and the slot with its value. -/
def Obligations.RepliesRoundTrip : Prop :=
  ∀ (a : Nibble) (s : State), s.cfg.legal = true → s.telemetryEnable = true → 1 ≤ a.toNat → a.toNat ≤ s.sensorCount →
    (∃ u bytes, exec (.pollType a) s = .next u ∧ u.tx = s.tx ++ bytes ∧
      decode s.cfg (.outbound bytes) = .ok (.replyType a (readSensor a.toNat s).type)) ∧
    (∃ u bytes, exec (.pollValue a) s = .next u ∧ u.tx = s.tx ++ bytes ∧
      decode s.cfg (.outbound bytes) = .ok (.replyValue a (readSensor a.toNat s).value))

/-- R81, R264 (b) and (c): the echo of a Type or a Value reply is never a dispatched poll but IGNORED, whatever the
registry and the legal configuration; the echo of a Discover reply is the poll again. -/
def Obligations.EchoesOfReplies : Prop :=
  ∀ (c : Config) (en : Bool) (count : Nat) (a : Nibble) (ty : Byte) (v : Half), c.legal = true →
    decode c (.inbound en count (encodeReply c a 0x90#8 [ty, 0x02#8])) =
      .ok (.ignored (0x90#8 + a.setWidth 8) [ty, 0x02#8]) ∧
    decode c (.inbound en count (encodeReply c a 0xA0#8 [lo8 v, hi8 v])) =
      .ok (.ignored (0xA0#8 + a.setWidth 8) [lo8 v, hi8 v]) ∧
    (en = true → 1 ≤ a.toNat → a.toNat ≤ count →
      decode c (.inbound en count (encodeReply c a 0x80#8 [])) = .ok (.pollDiscover a))

/-- R153, R161: a step transmits nothing and makes no guard pause, or exactly one whole reply after exactly one pause,
made before the reply's first byte. -/
def Obligations.OneReplyAtMostAStep : Prop :=
  ∀ s u : State, step s = .next u →
    (u.tx = s.tx ∧ u.guards = s.guards) ∨
    (∃ (a : Nibble) (sub : Byte) (data : List Byte), 1 ≤ a.toNat ∧ a.toNat ≤ s.sensorCount ∧
      ((sub = 0x80#8 ∧ data = []) ∨ (sub = 0x90#8 ∧ data = [(readSensor a.toNat s).type, 0x02#8]) ∨
        (sub = 0xA0#8 ∧ data = [lo8 (readSensor a.toNat s).value, hi8 (readSensor a.toNat s).value])) ∧
      u.tx = s.tx ++ encodeReply s.cfg a sub data ∧ u.guards = s.guards ++ [⟨s.tx.length, s.cfg.guardUs⟩])

/-! ## The host port -/

/-- R38, R190: INIT is accepted in every state and sets what R38 fixes; the transmit stream and the rest of the ports
are as they were. -/
def Obligations.InitResetsTheBlock : Prop :=
  ∀ (en : Bool) (t : Millis) (s : State), ∃ u, exec (.init en t) s = .next u ∧
    u.initDone = true ∧ u.dstate = .discarding ∧ u.lastMs = t ∧ (∀ i, i < 10 → u.ch[i]? = some 0#16) ∧
    u.sensorCount = 0 ∧ u.telemetryEnable = en ∧
    u.cntRec = 0#32 ∧ u.cntLenerr = 0#32 ∧ u.cntPoll = 0#32 ∧ u.cntSensor = 0#32 ∧
    u.tx = s.tx ∧ u.results = s.results ∧ u.outcomes = s.outcomes ∧ u.guards = s.guards ∧
    u.events = s.events ∧ u.cfg = s.cfg

/-- R7, R38, R250: the reset state holds what R38 fixes, and the parameters to which R7 gives a value have it. That
the transmit stream starts empty is the model's choice, which R38 allows (log 8). The values of the registers R38
leaves unspecified are the model's choice (log 1) and are not stated; that it is the INIT with `en = 1` and `t = 0` is
the model's choice too (log 2). -/
def Obligations.ResetHoldsTheInitValues : Prop :=
  State.reset.initDone = true ∧ State.reset.dstate = .discarding ∧ State.reset.ch = Vector.replicate 10 0#16 ∧
    State.reset.sensorCount = 0 ∧ State.reset.cntRec = 0#32 ∧ State.reset.cntLenerr = 0#32 ∧
    State.reset.cntPoll = 0#32 ∧ State.reset.cntSensor = 0#32 ∧ State.reset.tx = [] ∧
    State.reset.cfg.overhead = 3 ∧ State.reset.cfg.maxLength = 0x20 ∧ State.reset.cfg.payloadMax = 29 ∧
    State.reset.cfg.channels = 10 ∧ State.reset.cfg.clockBits = 32 ∧ State.reset.cfg.counterBits = 32

/-- R250, R251: after an INIT at `t₀`, a first byte at `t` is taken as a length byte when `(t − t₀) mod 2^P_CLOCK_BITS`
exceeds `P_GAP_MS`, and is discarded otherwise. -/
def Obligations.FirstByteAfterInitNeedsAGap : Prop :=
  ∀ (en : Bool) (t₀ t : Millis) (b : Byte) (s u : State), exec (.init en t₀) s = .next u →
    ((t - t₀).toNat % 2 ^ s.cfg.clockBits ≤ s.cfg.gapMs → exec (.rxByte b t) u = .next { u with lastMs := t }) ∧
    (s.cfg.gapMs < (t - t₀).toNat % 2 ^ s.cfg.clockBits → s.cfg.overhead < b.toNat →
      b.toNat ≤ s.cfg.maxLength →
      ∃ w, exec (.rxByte b t) u = .next w ∧ w.dstate = .accumulatingPayload ∧
        w.plen = BitVec.ofNat 5 (b.toNat - s.cfg.overhead) ∧ w.ptr = 0#5) ∧
    (s.cfg.gapMs < (t - t₀).toNat % 2 ^ s.cfg.clockBits →
      (b.toNat ≤ s.cfg.overhead ∨ s.cfg.maxLength < b.toNat) →
      ∃ w, exec (.rxByte b t) u = .next w ∧ w.dstate = .discarding ∧
        w.cntLenerr = BitVec.ofNat 32 (1 % 2 ^ s.cfg.counterBits))

/-- R191: READ_CHANNEL returns the channel, or 0 for an index from `P_CHANNELS` on, and changes nothing else. -/
def Obligations.ReadChannelReturnsTheChannel : Prop :=
  ∀ (n : Byte) (s : State), s.initDone = true →
    exec (.readChannel n) s = .next
      { s with
        results := s.results ++ [.channel (if n.toNat < s.cfg.channels then s.ch[n.toNat]?.getD 0#16 else 0#16)] }

/-- R192, R226: below capacity REGISTER_SENSOR takes the next slot, with its type and the value 0, and returns the slot;
at capacity it changes nothing and returns the count. Every other slot is as before. -/
def Obligations.RegisterSensorAppends : Prop :=
  ∀ (ty : Byte) (s : State), s.initDone = true → s.cfg.legal = true →
    (s.sensorCount < s.cfg.sensorCapacity →
      ∃ u, exec (.registerSensor ty) s = .next u ∧
        u = { s with
          sens := u.sens
          sensorCount := s.sensorCount + 1
          results := s.results ++ [.slot (s.sensorCount + 1)] } ∧
        ∀ slot, readSensor slot u = if slot = s.sensorCount + 1 then ⟨ty, 0#16⟩ else readSensor slot s) ∧
    (s.cfg.sensorCapacity ≤ s.sensorCount →
      exec (.registerSensor ty) s = .next
        { s with outcomes := s.outcomes ++ [.sensorOverflow ty], results := s.results ++ [.slot s.sensorCount] })

/-- R193: SET_SENSOR_VALUE writes the value of a registered slot, and of no other slot, and keeps every type; for any
other slot number it changes nothing but the observation. A registry holds at most 15 sensors (R8, R29). -/
def Obligations.SetSensorValueWritesRegisteredSlots : Prop :=
  ∀ (slot : Byte) (v : Half) (s : State), s.initDone = true → s.sensorCount ≤ 15 →
    (1 ≤ slot.toNat → slot.toNat ≤ s.sensorCount →
      ∃ u, exec (.setSensorValue slot v) s = .next u ∧ u = { s with sens := u.sens } ∧
        ∀ m, (readSensor m u).type = (readSensor m s).type ∧
          (readSensor m u).value = if m = slot.toNat then v else (readSensor m s).value) ∧
    ((slot.toNat = 0 ∨ s.sensorCount < slot.toNat) →
      exec (.setSensorValue slot v) s = .next { s with outcomes := s.outcomes ++ [.sensorSlotOutOfRange slot] })

/-- R195: READ_COUNTER returns the counter of its number and changes nothing else; a number above 3 is refused. -/
def Obligations.ReadCounterReturnsTheCounter : Prop :=
  ∀ (k : Byte) (s : State), s.initDone = true →
    (∀ v, (k = 0#8 ∧ v = s.cntRec) ∨ (k = 1#8 ∧ v = s.cntLenerr) ∨ (k = 2#8 ∧ v = s.cntPoll) ∨
        (k = 3#8 ∧ v = s.cntSensor) →
      exec (.readCounter k) s = .next { s with results := s.results ++ [.counter v] }) ∧
    (4 ≤ k.toNat → exec (.readCounter k) s = .refused (.counterNumber k))

/-- R91: the two reserved operations are refused in every state. -/
def Obligations.ReservedOperationsAreRefused : Prop :=
  ∀ (x : BitVec 61) (s : State), exec (.reservedOp110 x) s = .refused .reservedOperation ∧
    exec (.reservedOp111 x) s = .refused .reservedOperation

/-- R196: no host operation but INIT writes the frame-assembly state, and none transmits. -/
def Obligations.HostOperationsKeepTheFrame : Prop :=
  ∀ (n ty slot k : Byte) (v : Half) (s u : State),
    (exec (.readChannel n) s = .next u ∨ exec (.registerSensor ty) s = .next u ∨
      exec (.setSensorValue slot v) s = .next u ∨ exec (.readCounter k) s = .next u) →
    u.dstate = s.dstate ∧ u.plen = s.plen ∧ u.ptr = s.ptr ∧ u.acc = s.acc ∧ u.rxLo = s.rxLo ∧ u.buf = s.buf ∧
      u.lastMs = s.lastMs ∧ u.ch = s.ch ∧ u.telemetryEnable = s.telemetryEnable ∧ u.tx = s.tx ∧
      u.cntRec = s.cntRec ∧ u.cntLenerr = s.cntLenerr ∧ u.cntPoll = s.cntPoll ∧ u.cntSensor = s.cntSensor

/-! ## The whole machine -/

/-- R29, R30: until the next INIT a registered sensor is never removed or re-typed: the count does not fall, and the
type of every registered slot stays. -/
def Obligations.RegisteredSensorsStay : Prop :=
  ∀ (i : Instr) (s u : State), (∀ en t, i ≠ .init en t) → exec i s = .next u →
    s.sensorCount ≤ u.sensorCount ∧
      ∀ slot, 1 ≤ slot → slot ≤ s.sensorCount → (readSensor slot u).type = (readSensor slot s).type

/-- R7, R20: no step writes the parameters. That the model keeps them in the state is its own choice (log 5). -/
def Obligations.StepKeepsTheParameters : Prop :=
  ∀ s u : State, step s = .next u → u.cfg = s.cfg

/-- R22, R23, R24, R29, R74: the invariant, which every step keeps from every state that has it: the registry fits a
legal configuration, `plen` and `ptr` are in their ranges for the decoder state, and the accumulator holds the
checksum of the length byte and the payload stored so far. -/
def Obligations.StepKeepsTheAssemblyInvariant : Prop :=
  ∀ s u : State, Inv s → step s = .next u → Inv u

/-- R22 to R24, R29, R38: the reset state meets the invariant. That its configuration is a legal one rests on the values
chosen for the OPEN parameters (log 5). -/
def Obligations.ResetMeetsTheAssemblyInvariant : Prop := Inv State.reset

/-- R36, R37: content that the spec leaves unspecified is unobservable. Two states that agree but for it take steps that
agree but for it, or are refused for the same reason. -/
def Obligations.UnspecifiedContentIsUnobservable : Prop :=
  ∀ s₁ s₂ : State, Inv s₁ → Agree s₁ s₂ →
    (∃ u₁ u₂, step s₁ = .next u₁ ∧ step s₂ = .next u₂ ∧ Agree u₁ u₂) ∨
    (∃ r, step s₁ = .refused r ∧ step s₂ = .refused r)

/-- R37, R38, R190: after an INIT nothing of the earlier content is left to observe: two states that agree on the ports
and the model's own fields agree after it, whatever the block's registers held. -/
def Obligations.InitForgetsTheEarlierContent : Prop :=
  ∀ (en : Bool) (t : Millis) (s₁ s₂ u₁ u₂ : State),
    s₁.cfg = s₂.cfg → s₁.events = s₂.events → s₁.tx = s₂.tx → s₁.results = s₂.results → s₁.outcomes = s₂.outcomes →
    s₁.guards = s₂.guards → s₁.freeDraws = s₂.freeDraws →
    exec (.init en t) s₁ = .next u₁ → exec (.init en t) s₂ = .next u₂ → Agree u₁ u₂

/-- R70 to R78, R101 to R110: a whole frame, received byte by byte after a gap and with no gap inside, is dispatched to
the operation of R77 when its checksum is right, and dropped with no effect but the observation when it is not. -/
def Obligations.WholeFrameIsDispatchedOrDropped : Prop :=
  ∀ (s : State) (cmd cLo cHi : Byte) (data : List Byte) (t dt : Millis),
    s.cfg.legal = true → s.initDone = true → s.events = [] → data.length + 1 ≤ s.cfg.payloadMax →
    s.cfg.gapMs < (t - s.lastMs).toNat % 2 ^ s.cfg.clockBits → dt.toNat % 2 ^ s.cfg.clockBits ≤ s.cfg.gapMs →
    let l := frameLength s.cfg data
    let c := checksum (l :: cmd :: data)
    let received : State :=
      { fillBuf (cmd :: data) (gapRule t s) with
        dstate := .awaitingChecksumHigh
        plen := BitVec.ofNat 5 (data.length + 1)
        ptr := BitVec.ofNat 5 (data.length + 1)
        acc := c
        rxLo := cLo
        lastMs := t + BitVec.ofNat 32 (data.length + 3) * dt }
    let ran : Host.Outcome State Fault Refusal :=
      Host.Core.run Sys2Proof.core (data.length + 4) (offerEvents (rxf (l :: cmd :: data ++ [cLo, cHi]) t dt) s)
    (u16 cLo cHi = c →
      ∃ u, exec (classify s.telemetryEnable s.sensorCount (data.length + 1) cmd data).toInstr received = .next u ∧
        ran = .next { u with dstate := .discarding }) ∧
    (u16 cLo cHi ≠ c →
      ran = .next
        { received with
          outcomes := (gapRule t s).outcomes ++ [.checksumMismatch (u16 cLo cHi) c]
          dstate := .discarding })

/-- R112: once a length byte `L` is accepted, the decoder is in Discarding after exactly `L − P_OVERHEAD` payload
bytes and 2 checksum bytes, whatever they are, if no gap intervenes, and not before. With R7's `P_OVERHEAD = 3` these
are the `L − 1` further bytes of R112. -/
def Obligations.DecoderRecoversWithinAFrame : Prop :=
  ∀ (s : State) (l : Byte) (bytes : List Byte) (t dt : Millis),
    s.cfg.legal = true → s.initDone = true → s.events = [] → (gapRule t s).dstate = .awaitingLength →
    s.cfg.overhead < l.toNat → l.toNat ≤ s.cfg.maxLength → bytes.length ≤ l.toNat - s.cfg.overhead + 2 →
    dt.toNat % 2 ^ s.cfg.clockBits ≤ s.cfg.gapMs →
    ∃ u : State,
      (Host.Core.run Sys2Proof.core (bytes.length + 1) (offerEvents (rxf (l :: bytes) t dt) s) :
        Host.Outcome State Fault Refusal) = .next u ∧
      (u.dstate = .discarding ↔ bytes.length = l.toNat - s.cfg.overhead + 2) ∧
      (s.cfg.overhead = 3 → (u.dstate = .discarding ↔ bytes.length = l.toNat - 1))

/-- R103, R109: an invalid length byte is counted once, however many bytes follow it without a gap, and they change the
time alone. -/
def Obligations.BadFrameIsCountedOnce : Prop :=
  ∀ (s : State) (l : Byte) (bytes : List Byte) (t dt : Millis),
    s.cfg.legal = true → s.initDone = true → s.events = [] → (gapRule t s).dstate = .awaitingLength →
    (l.toNat ≤ s.cfg.overhead ∨ s.cfg.maxLength < l.toNat) → dt.toNat % 2 ^ s.cfg.clockBits ≤ s.cfg.gapMs →
    (Host.Core.run Sys2Proof.core (bytes.length + 1) (offerEvents (rxf (l :: bytes) t dt) s) :
      Host.Outcome State Fault Refusal) = .next
        { gapRule t s with
          cntLenerr := BitVec.ofNat 32 ((s.cntLenerr.toNat + 1) % 2 ^ s.cfg.counterBits)
          outcomes := (gapRule t s).outcomes ++ [.invalidLength l]
          dstate := .discarding
          lastMs := t + BitVec.ofNat 32 bytes.length * dt }
end

