-- ==== Sys2Proof/Laws/State.lean ====
section
/-!
SUPPORT. One lemma per field per update of State: what each shared operation leaves in each field, so that no later proof
unfolds a record update.
-/

namespace Sys2Proof.Machine

variable (s : State)

/-! ### writeBuf -/

@[simp] theorem writeBuf_cfg (i : Nat) (b : Byte) : (writeBuf i b s).cfg = s.cfg := rfl
@[simp] theorem writeBuf_events (i : Nat) (b : Byte) : (writeBuf i b s).events = s.events := rfl
@[simp] theorem writeBuf_initDone (i : Nat) (b : Byte) : (writeBuf i b s).initDone = s.initDone := rfl
@[simp] theorem writeBuf_dstate (i : Nat) (b : Byte) : (writeBuf i b s).dstate = s.dstate := rfl
@[simp] theorem writeBuf_plen (i : Nat) (b : Byte) : (writeBuf i b s).plen = s.plen := rfl
@[simp] theorem writeBuf_ptr (i : Nat) (b : Byte) : (writeBuf i b s).ptr = s.ptr := rfl
@[simp] theorem writeBuf_acc (i : Nat) (b : Byte) : (writeBuf i b s).acc = s.acc := rfl
@[simp] theorem writeBuf_rxLo (i : Nat) (b : Byte) : (writeBuf i b s).rxLo = s.rxLo := rfl
@[simp] theorem writeBuf_buf (i : Nat) (b : Byte) : (writeBuf i b s).buf = s.buf.setIfInBounds i b := rfl
@[simp] theorem writeBuf_lastMs (i : Nat) (b : Byte) : (writeBuf i b s).lastMs = s.lastMs := rfl
@[simp] theorem writeBuf_ch (i : Nat) (b : Byte) : (writeBuf i b s).ch = s.ch := rfl
@[simp] theorem writeBuf_sensorCount (i : Nat) (b : Byte) : (writeBuf i b s).sensorCount = s.sensorCount := rfl
@[simp] theorem writeBuf_sens (i : Nat) (b : Byte) : (writeBuf i b s).sens = s.sens := rfl
@[simp] theorem writeBuf_telemetryEnable (i : Nat) (b : Byte) : (writeBuf i b s).telemetryEnable = s.telemetryEnable := rfl
@[simp] theorem writeBuf_cntRec (i : Nat) (b : Byte) : (writeBuf i b s).cntRec = s.cntRec := rfl
@[simp] theorem writeBuf_cntLenerr (i : Nat) (b : Byte) : (writeBuf i b s).cntLenerr = s.cntLenerr := rfl
@[simp] theorem writeBuf_cntPoll (i : Nat) (b : Byte) : (writeBuf i b s).cntPoll = s.cntPoll := rfl
@[simp] theorem writeBuf_cntSensor (i : Nat) (b : Byte) : (writeBuf i b s).cntSensor = s.cntSensor := rfl
@[simp] theorem writeBuf_tx (i : Nat) (b : Byte) : (writeBuf i b s).tx = s.tx := rfl
@[simp] theorem writeBuf_results (i : Nat) (b : Byte) : (writeBuf i b s).results = s.results := rfl
@[simp] theorem writeBuf_outcomes (i : Nat) (b : Byte) : (writeBuf i b s).outcomes = s.outcomes := rfl
@[simp] theorem writeBuf_guards (i : Nat) (b : Byte) : (writeBuf i b s).guards = s.guards := rfl
@[simp] theorem writeBuf_freeDraws (i : Nat) (b : Byte) : (writeBuf i b s).freeDraws = s.freeDraws := rfl

/-! ### writeSensor -/

@[simp] theorem writeSensor_cfg (n : Nat) (e : Sensor) : (writeSensor n e s).cfg = s.cfg := by simp only [writeSensor]; split <;> rfl
@[simp] theorem writeSensor_events (n : Nat) (e : Sensor) : (writeSensor n e s).events = s.events := by simp only [writeSensor]; split <;> rfl
@[simp] theorem writeSensor_initDone (n : Nat) (e : Sensor) : (writeSensor n e s).initDone = s.initDone := by simp only [writeSensor]; split <;> rfl
@[simp] theorem writeSensor_dstate (n : Nat) (e : Sensor) : (writeSensor n e s).dstate = s.dstate := by simp only [writeSensor]; split <;> rfl
@[simp] theorem writeSensor_plen (n : Nat) (e : Sensor) : (writeSensor n e s).plen = s.plen := by simp only [writeSensor]; split <;> rfl
@[simp] theorem writeSensor_ptr (n : Nat) (e : Sensor) : (writeSensor n e s).ptr = s.ptr := by simp only [writeSensor]; split <;> rfl
@[simp] theorem writeSensor_acc (n : Nat) (e : Sensor) : (writeSensor n e s).acc = s.acc := by simp only [writeSensor]; split <;> rfl
@[simp] theorem writeSensor_rxLo (n : Nat) (e : Sensor) : (writeSensor n e s).rxLo = s.rxLo := by simp only [writeSensor]; split <;> rfl
@[simp] theorem writeSensor_buf (n : Nat) (e : Sensor) : (writeSensor n e s).buf = s.buf := by simp only [writeSensor]; split <;> rfl
@[simp] theorem writeSensor_lastMs (n : Nat) (e : Sensor) : (writeSensor n e s).lastMs = s.lastMs := by simp only [writeSensor]; split <;> rfl
@[simp] theorem writeSensor_ch (n : Nat) (e : Sensor) : (writeSensor n e s).ch = s.ch := by simp only [writeSensor]; split <;> rfl
@[simp] theorem writeSensor_sensorCount (n : Nat) (e : Sensor) : (writeSensor n e s).sensorCount = s.sensorCount := by simp only [writeSensor]; split <;> rfl
@[simp] theorem writeSensor_telemetryEnable (n : Nat) (e : Sensor) : (writeSensor n e s).telemetryEnable = s.telemetryEnable := by simp only [writeSensor]; split <;> rfl
@[simp] theorem writeSensor_cntRec (n : Nat) (e : Sensor) : (writeSensor n e s).cntRec = s.cntRec := by simp only [writeSensor]; split <;> rfl
@[simp] theorem writeSensor_cntLenerr (n : Nat) (e : Sensor) : (writeSensor n e s).cntLenerr = s.cntLenerr := by simp only [writeSensor]; split <;> rfl
@[simp] theorem writeSensor_cntPoll (n : Nat) (e : Sensor) : (writeSensor n e s).cntPoll = s.cntPoll := by simp only [writeSensor]; split <;> rfl
@[simp] theorem writeSensor_cntSensor (n : Nat) (e : Sensor) : (writeSensor n e s).cntSensor = s.cntSensor := by simp only [writeSensor]; split <;> rfl
@[simp] theorem writeSensor_tx (n : Nat) (e : Sensor) : (writeSensor n e s).tx = s.tx := by simp only [writeSensor]; split <;> rfl
@[simp] theorem writeSensor_results (n : Nat) (e : Sensor) : (writeSensor n e s).results = s.results := by simp only [writeSensor]; split <;> rfl
@[simp] theorem writeSensor_outcomes (n : Nat) (e : Sensor) : (writeSensor n e s).outcomes = s.outcomes := by simp only [writeSensor]; split <;> rfl
@[simp] theorem writeSensor_guards (n : Nat) (e : Sensor) : (writeSensor n e s).guards = s.guards := by simp only [writeSensor]; split <;> rfl
@[simp] theorem writeSensor_freeDraws (n : Nat) (e : Sensor) : (writeSensor n e s).freeDraws = s.freeDraws := by simp only [writeSensor]; split <;> rfl

/-! ### countFrame -/

@[simp] theorem countFrame_cfg : (countFrame s).cfg = s.cfg := rfl
@[simp] theorem countFrame_events : (countFrame s).events = s.events := rfl
@[simp] theorem countFrame_initDone : (countFrame s).initDone = s.initDone := rfl
@[simp] theorem countFrame_dstate : (countFrame s).dstate = s.dstate := rfl
@[simp] theorem countFrame_plen : (countFrame s).plen = s.plen := rfl
@[simp] theorem countFrame_ptr : (countFrame s).ptr = s.ptr := rfl
@[simp] theorem countFrame_acc : (countFrame s).acc = s.acc := rfl
@[simp] theorem countFrame_rxLo : (countFrame s).rxLo = s.rxLo := rfl
@[simp] theorem countFrame_buf : (countFrame s).buf = s.buf := rfl
@[simp] theorem countFrame_lastMs : (countFrame s).lastMs = s.lastMs := rfl
@[simp] theorem countFrame_ch : (countFrame s).ch = s.ch := rfl
@[simp] theorem countFrame_sensorCount : (countFrame s).sensorCount = s.sensorCount := rfl
@[simp] theorem countFrame_sens : (countFrame s).sens = s.sens := rfl
@[simp] theorem countFrame_telemetryEnable : (countFrame s).telemetryEnable = s.telemetryEnable := rfl
@[simp] theorem countFrame_cntRec : (countFrame s).cntRec = nextCount s.cfg s.cntRec := rfl
@[simp] theorem countFrame_cntLenerr : (countFrame s).cntLenerr = s.cntLenerr := rfl
@[simp] theorem countFrame_cntPoll : (countFrame s).cntPoll = s.cntPoll := rfl
@[simp] theorem countFrame_cntSensor : (countFrame s).cntSensor = s.cntSensor := rfl
@[simp] theorem countFrame_tx : (countFrame s).tx = s.tx := rfl
@[simp] theorem countFrame_results : (countFrame s).results = s.results := rfl
@[simp] theorem countFrame_outcomes : (countFrame s).outcomes = s.outcomes := rfl
@[simp] theorem countFrame_guards : (countFrame s).guards = s.guards := rfl
@[simp] theorem countFrame_freeDraws : (countFrame s).freeDraws = s.freeDraws := rfl

/-! ### countLengthError -/

@[simp] theorem countLengthError_cfg : (countLengthError s).cfg = s.cfg := rfl
@[simp] theorem countLengthError_events : (countLengthError s).events = s.events := rfl
@[simp] theorem countLengthError_initDone : (countLengthError s).initDone = s.initDone := rfl
@[simp] theorem countLengthError_dstate : (countLengthError s).dstate = s.dstate := rfl
@[simp] theorem countLengthError_plen : (countLengthError s).plen = s.plen := rfl
@[simp] theorem countLengthError_ptr : (countLengthError s).ptr = s.ptr := rfl
@[simp] theorem countLengthError_acc : (countLengthError s).acc = s.acc := rfl
@[simp] theorem countLengthError_rxLo : (countLengthError s).rxLo = s.rxLo := rfl
@[simp] theorem countLengthError_buf : (countLengthError s).buf = s.buf := rfl
@[simp] theorem countLengthError_lastMs : (countLengthError s).lastMs = s.lastMs := rfl
@[simp] theorem countLengthError_ch : (countLengthError s).ch = s.ch := rfl
@[simp] theorem countLengthError_sensorCount : (countLengthError s).sensorCount = s.sensorCount := rfl
@[simp] theorem countLengthError_sens : (countLengthError s).sens = s.sens := rfl
@[simp] theorem countLengthError_telemetryEnable : (countLengthError s).telemetryEnable = s.telemetryEnable := rfl
@[simp] theorem countLengthError_cntRec : (countLengthError s).cntRec = s.cntRec := rfl
@[simp] theorem countLengthError_cntLenerr : (countLengthError s).cntLenerr = nextCount s.cfg s.cntLenerr := rfl
@[simp] theorem countLengthError_cntPoll : (countLengthError s).cntPoll = s.cntPoll := rfl
@[simp] theorem countLengthError_cntSensor : (countLengthError s).cntSensor = s.cntSensor := rfl
@[simp] theorem countLengthError_tx : (countLengthError s).tx = s.tx := rfl
@[simp] theorem countLengthError_results : (countLengthError s).results = s.results := rfl
@[simp] theorem countLengthError_outcomes : (countLengthError s).outcomes = s.outcomes := rfl
@[simp] theorem countLengthError_guards : (countLengthError s).guards = s.guards := rfl
@[simp] theorem countLengthError_freeDraws : (countLengthError s).freeDraws = s.freeDraws := rfl

/-! ### countPoll -/

@[simp] theorem countPoll_cfg (l : List PollCountScope) : (countPoll l s).cfg = s.cfg := by simp only [countPoll]; split <;> rfl
@[simp] theorem countPoll_events (l : List PollCountScope) : (countPoll l s).events = s.events := by simp only [countPoll]; split <;> rfl
@[simp] theorem countPoll_initDone (l : List PollCountScope) : (countPoll l s).initDone = s.initDone := by simp only [countPoll]; split <;> rfl
@[simp] theorem countPoll_dstate (l : List PollCountScope) : (countPoll l s).dstate = s.dstate := by simp only [countPoll]; split <;> rfl
@[simp] theorem countPoll_plen (l : List PollCountScope) : (countPoll l s).plen = s.plen := by simp only [countPoll]; split <;> rfl
@[simp] theorem countPoll_ptr (l : List PollCountScope) : (countPoll l s).ptr = s.ptr := by simp only [countPoll]; split <;> rfl
@[simp] theorem countPoll_acc (l : List PollCountScope) : (countPoll l s).acc = s.acc := by simp only [countPoll]; split <;> rfl
@[simp] theorem countPoll_rxLo (l : List PollCountScope) : (countPoll l s).rxLo = s.rxLo := by simp only [countPoll]; split <;> rfl
@[simp] theorem countPoll_buf (l : List PollCountScope) : (countPoll l s).buf = s.buf := by simp only [countPoll]; split <;> rfl
@[simp] theorem countPoll_lastMs (l : List PollCountScope) : (countPoll l s).lastMs = s.lastMs := by simp only [countPoll]; split <;> rfl
@[simp] theorem countPoll_ch (l : List PollCountScope) : (countPoll l s).ch = s.ch := by simp only [countPoll]; split <;> rfl
@[simp] theorem countPoll_sensorCount (l : List PollCountScope) : (countPoll l s).sensorCount = s.sensorCount := by simp only [countPoll]; split <;> rfl
@[simp] theorem countPoll_sens (l : List PollCountScope) : (countPoll l s).sens = s.sens := by simp only [countPoll]; split <;> rfl
@[simp] theorem countPoll_telemetryEnable (l : List PollCountScope) : (countPoll l s).telemetryEnable = s.telemetryEnable := by simp only [countPoll]; split <;> rfl
@[simp] theorem countPoll_cntRec (l : List PollCountScope) : (countPoll l s).cntRec = s.cntRec := by simp only [countPoll]; split <;> rfl
@[simp] theorem countPoll_cntLenerr (l : List PollCountScope) : (countPoll l s).cntLenerr = s.cntLenerr := by simp only [countPoll]; split <;> rfl
@[simp] theorem countPoll_cntSensor (l : List PollCountScope) : (countPoll l s).cntSensor = s.cntSensor := by simp only [countPoll]; split <;> rfl
@[simp] theorem countPoll_tx (l : List PollCountScope) : (countPoll l s).tx = s.tx := by simp only [countPoll]; split <;> rfl
@[simp] theorem countPoll_results (l : List PollCountScope) : (countPoll l s).results = s.results := by simp only [countPoll]; split <;> rfl
@[simp] theorem countPoll_outcomes (l : List PollCountScope) : (countPoll l s).outcomes = s.outcomes := by simp only [countPoll]; split <;> rfl
@[simp] theorem countPoll_guards (l : List PollCountScope) : (countPoll l s).guards = s.guards := by simp only [countPoll]; split <;> rfl
@[simp] theorem countPoll_freeDraws (l : List PollCountScope) : (countPoll l s).freeDraws = s.freeDraws := by simp only [countPoll]; split <;> rfl

/-! ### countValueReply -/

@[simp] theorem countValueReply_cfg : (countValueReply s).cfg = s.cfg := rfl
@[simp] theorem countValueReply_events : (countValueReply s).events = s.events := rfl
@[simp] theorem countValueReply_initDone : (countValueReply s).initDone = s.initDone := rfl
@[simp] theorem countValueReply_dstate : (countValueReply s).dstate = s.dstate := rfl
@[simp] theorem countValueReply_plen : (countValueReply s).plen = s.plen := rfl
@[simp] theorem countValueReply_ptr : (countValueReply s).ptr = s.ptr := rfl
@[simp] theorem countValueReply_acc : (countValueReply s).acc = s.acc := rfl
@[simp] theorem countValueReply_rxLo : (countValueReply s).rxLo = s.rxLo := rfl
@[simp] theorem countValueReply_buf : (countValueReply s).buf = s.buf := rfl
@[simp] theorem countValueReply_lastMs : (countValueReply s).lastMs = s.lastMs := rfl
@[simp] theorem countValueReply_ch : (countValueReply s).ch = s.ch := rfl
@[simp] theorem countValueReply_sensorCount : (countValueReply s).sensorCount = s.sensorCount := rfl
@[simp] theorem countValueReply_sens : (countValueReply s).sens = s.sens := rfl
@[simp] theorem countValueReply_telemetryEnable : (countValueReply s).telemetryEnable = s.telemetryEnable := rfl
@[simp] theorem countValueReply_cntRec : (countValueReply s).cntRec = s.cntRec := rfl
@[simp] theorem countValueReply_cntLenerr : (countValueReply s).cntLenerr = s.cntLenerr := rfl
@[simp] theorem countValueReply_cntPoll : (countValueReply s).cntPoll = s.cntPoll := rfl
@[simp] theorem countValueReply_cntSensor : (countValueReply s).cntSensor = nextCount s.cfg s.cntSensor := rfl
@[simp] theorem countValueReply_tx : (countValueReply s).tx = s.tx := rfl
@[simp] theorem countValueReply_results : (countValueReply s).results = s.results := rfl
@[simp] theorem countValueReply_outcomes : (countValueReply s).outcomes = s.outcomes := rfl
@[simp] theorem countValueReply_guards : (countValueReply s).guards = s.guards := rfl
@[simp] theorem countValueReply_freeDraws : (countValueReply s).freeDraws = s.freeDraws := rfl

/-! ### observe -/

@[simp] theorem observe_cfg (o : Observation) : (observe o s).cfg = s.cfg := rfl
@[simp] theorem observe_events (o : Observation) : (observe o s).events = s.events := rfl
@[simp] theorem observe_initDone (o : Observation) : (observe o s).initDone = s.initDone := rfl
@[simp] theorem observe_dstate (o : Observation) : (observe o s).dstate = s.dstate := rfl
@[simp] theorem observe_plen (o : Observation) : (observe o s).plen = s.plen := rfl
@[simp] theorem observe_ptr (o : Observation) : (observe o s).ptr = s.ptr := rfl
@[simp] theorem observe_acc (o : Observation) : (observe o s).acc = s.acc := rfl
@[simp] theorem observe_rxLo (o : Observation) : (observe o s).rxLo = s.rxLo := rfl
@[simp] theorem observe_buf (o : Observation) : (observe o s).buf = s.buf := rfl
@[simp] theorem observe_lastMs (o : Observation) : (observe o s).lastMs = s.lastMs := rfl
@[simp] theorem observe_ch (o : Observation) : (observe o s).ch = s.ch := rfl
@[simp] theorem observe_sensorCount (o : Observation) : (observe o s).sensorCount = s.sensorCount := rfl
@[simp] theorem observe_sens (o : Observation) : (observe o s).sens = s.sens := rfl
@[simp] theorem observe_telemetryEnable (o : Observation) : (observe o s).telemetryEnable = s.telemetryEnable := rfl
@[simp] theorem observe_cntRec (o : Observation) : (observe o s).cntRec = s.cntRec := rfl
@[simp] theorem observe_cntLenerr (o : Observation) : (observe o s).cntLenerr = s.cntLenerr := rfl
@[simp] theorem observe_cntPoll (o : Observation) : (observe o s).cntPoll = s.cntPoll := rfl
@[simp] theorem observe_cntSensor (o : Observation) : (observe o s).cntSensor = s.cntSensor := rfl
@[simp] theorem observe_tx (o : Observation) : (observe o s).tx = s.tx := rfl
@[simp] theorem observe_results (o : Observation) : (observe o s).results = s.results := rfl
@[simp] theorem observe_outcomes (o : Observation) : (observe o s).outcomes = s.outcomes ++ [o] := rfl
@[simp] theorem observe_guards (o : Observation) : (observe o s).guards = s.guards := rfl
@[simp] theorem observe_freeDraws (o : Observation) : (observe o s).freeDraws = s.freeDraws := rfl

/-! ### returnResult -/

@[simp] theorem returnResult_cfg (r : HostResult) : (returnResult r s).cfg = s.cfg := rfl
@[simp] theorem returnResult_events (r : HostResult) : (returnResult r s).events = s.events := rfl
@[simp] theorem returnResult_initDone (r : HostResult) : (returnResult r s).initDone = s.initDone := rfl
@[simp] theorem returnResult_dstate (r : HostResult) : (returnResult r s).dstate = s.dstate := rfl
@[simp] theorem returnResult_plen (r : HostResult) : (returnResult r s).plen = s.plen := rfl
@[simp] theorem returnResult_ptr (r : HostResult) : (returnResult r s).ptr = s.ptr := rfl
@[simp] theorem returnResult_acc (r : HostResult) : (returnResult r s).acc = s.acc := rfl
@[simp] theorem returnResult_rxLo (r : HostResult) : (returnResult r s).rxLo = s.rxLo := rfl
@[simp] theorem returnResult_buf (r : HostResult) : (returnResult r s).buf = s.buf := rfl
@[simp] theorem returnResult_lastMs (r : HostResult) : (returnResult r s).lastMs = s.lastMs := rfl
@[simp] theorem returnResult_ch (r : HostResult) : (returnResult r s).ch = s.ch := rfl
@[simp] theorem returnResult_sensorCount (r : HostResult) : (returnResult r s).sensorCount = s.sensorCount := rfl
@[simp] theorem returnResult_sens (r : HostResult) : (returnResult r s).sens = s.sens := rfl
@[simp] theorem returnResult_telemetryEnable (r : HostResult) : (returnResult r s).telemetryEnable = s.telemetryEnable := rfl
@[simp] theorem returnResult_cntRec (r : HostResult) : (returnResult r s).cntRec = s.cntRec := rfl
@[simp] theorem returnResult_cntLenerr (r : HostResult) : (returnResult r s).cntLenerr = s.cntLenerr := rfl
@[simp] theorem returnResult_cntPoll (r : HostResult) : (returnResult r s).cntPoll = s.cntPoll := rfl
@[simp] theorem returnResult_cntSensor (r : HostResult) : (returnResult r s).cntSensor = s.cntSensor := rfl
@[simp] theorem returnResult_tx (r : HostResult) : (returnResult r s).tx = s.tx := rfl
@[simp] theorem returnResult_results (r : HostResult) : (returnResult r s).results = s.results ++ [r] := rfl
@[simp] theorem returnResult_outcomes (r : HostResult) : (returnResult r s).outcomes = s.outcomes := rfl
@[simp] theorem returnResult_guards (r : HostResult) : (returnResult r s).guards = s.guards := rfl
@[simp] theorem returnResult_freeDraws (r : HostResult) : (returnResult r s).freeDraws = s.freeDraws := rfl

/-! ### guardDelay -/

@[simp] theorem guardDelay_cfg : (guardDelay s).cfg = s.cfg := rfl
@[simp] theorem guardDelay_events : (guardDelay s).events = s.events := rfl
@[simp] theorem guardDelay_initDone : (guardDelay s).initDone = s.initDone := rfl
@[simp] theorem guardDelay_dstate : (guardDelay s).dstate = s.dstate := rfl
@[simp] theorem guardDelay_plen : (guardDelay s).plen = s.plen := rfl
@[simp] theorem guardDelay_ptr : (guardDelay s).ptr = s.ptr := rfl
@[simp] theorem guardDelay_acc : (guardDelay s).acc = s.acc := rfl
@[simp] theorem guardDelay_rxLo : (guardDelay s).rxLo = s.rxLo := rfl
@[simp] theorem guardDelay_buf : (guardDelay s).buf = s.buf := rfl
@[simp] theorem guardDelay_lastMs : (guardDelay s).lastMs = s.lastMs := rfl
@[simp] theorem guardDelay_ch : (guardDelay s).ch = s.ch := rfl
@[simp] theorem guardDelay_sensorCount : (guardDelay s).sensorCount = s.sensorCount := rfl
@[simp] theorem guardDelay_sens : (guardDelay s).sens = s.sens := rfl
@[simp] theorem guardDelay_telemetryEnable : (guardDelay s).telemetryEnable = s.telemetryEnable := rfl
@[simp] theorem guardDelay_cntRec : (guardDelay s).cntRec = s.cntRec := rfl
@[simp] theorem guardDelay_cntLenerr : (guardDelay s).cntLenerr = s.cntLenerr := rfl
@[simp] theorem guardDelay_cntPoll : (guardDelay s).cntPoll = s.cntPoll := rfl
@[simp] theorem guardDelay_cntSensor : (guardDelay s).cntSensor = s.cntSensor := rfl
@[simp] theorem guardDelay_tx : (guardDelay s).tx = s.tx := rfl
@[simp] theorem guardDelay_results : (guardDelay s).results = s.results := rfl
@[simp] theorem guardDelay_outcomes : (guardDelay s).outcomes = s.outcomes := rfl
@[simp] theorem guardDelay_guards : (guardDelay s).guards = s.guards ++ [⟨s.tx.length, s.cfg.guardUs⟩] := rfl
@[simp] theorem guardDelay_freeDraws : (guardDelay s).freeDraws = s.freeDraws := rfl

/-! ### emit -/

@[simp] theorem emit_cfg (bs : List Byte) : (emit bs s).cfg = s.cfg := rfl
@[simp] theorem emit_events (bs : List Byte) : (emit bs s).events = s.events := rfl
@[simp] theorem emit_initDone (bs : List Byte) : (emit bs s).initDone = s.initDone := rfl
@[simp] theorem emit_dstate (bs : List Byte) : (emit bs s).dstate = s.dstate := rfl
@[simp] theorem emit_plen (bs : List Byte) : (emit bs s).plen = s.plen := rfl
@[simp] theorem emit_ptr (bs : List Byte) : (emit bs s).ptr = s.ptr := rfl
@[simp] theorem emit_acc (bs : List Byte) : (emit bs s).acc = s.acc := rfl
@[simp] theorem emit_rxLo (bs : List Byte) : (emit bs s).rxLo = s.rxLo := rfl
@[simp] theorem emit_buf (bs : List Byte) : (emit bs s).buf = s.buf := rfl
@[simp] theorem emit_lastMs (bs : List Byte) : (emit bs s).lastMs = s.lastMs := rfl
@[simp] theorem emit_ch (bs : List Byte) : (emit bs s).ch = s.ch := rfl
@[simp] theorem emit_sensorCount (bs : List Byte) : (emit bs s).sensorCount = s.sensorCount := rfl
@[simp] theorem emit_sens (bs : List Byte) : (emit bs s).sens = s.sens := rfl
@[simp] theorem emit_telemetryEnable (bs : List Byte) : (emit bs s).telemetryEnable = s.telemetryEnable := rfl
@[simp] theorem emit_cntRec (bs : List Byte) : (emit bs s).cntRec = s.cntRec := rfl
@[simp] theorem emit_cntLenerr (bs : List Byte) : (emit bs s).cntLenerr = s.cntLenerr := rfl
@[simp] theorem emit_cntPoll (bs : List Byte) : (emit bs s).cntPoll = s.cntPoll := rfl
@[simp] theorem emit_cntSensor (bs : List Byte) : (emit bs s).cntSensor = s.cntSensor := rfl
@[simp] theorem emit_tx (bs : List Byte) : (emit bs s).tx = s.tx ++ bs := rfl
@[simp] theorem emit_results (bs : List Byte) : (emit bs s).results = s.results := rfl
@[simp] theorem emit_outcomes (bs : List Byte) : (emit bs s).outcomes = s.outcomes := rfl
@[simp] theorem emit_guards (bs : List Byte) : (emit bs s).guards = s.guards := rfl
@[simp] theorem emit_freeDraws (bs : List Byte) : (emit bs s).freeDraws = s.freeDraws := rfl

/-! ### sendReply -/

@[simp] theorem sendReply_cfg (a : Nibble) (sub : Byte) (d : List Byte) : (sendReply a sub d s).cfg = s.cfg := rfl
@[simp] theorem sendReply_events (a : Nibble) (sub : Byte) (d : List Byte) : (sendReply a sub d s).events = s.events := rfl
@[simp] theorem sendReply_initDone (a : Nibble) (sub : Byte) (d : List Byte) : (sendReply a sub d s).initDone = s.initDone := rfl
@[simp] theorem sendReply_dstate (a : Nibble) (sub : Byte) (d : List Byte) : (sendReply a sub d s).dstate = s.dstate := rfl
@[simp] theorem sendReply_plen (a : Nibble) (sub : Byte) (d : List Byte) : (sendReply a sub d s).plen = s.plen := rfl
@[simp] theorem sendReply_ptr (a : Nibble) (sub : Byte) (d : List Byte) : (sendReply a sub d s).ptr = s.ptr := rfl
@[simp] theorem sendReply_acc (a : Nibble) (sub : Byte) (d : List Byte) : (sendReply a sub d s).acc = s.acc := rfl
@[simp] theorem sendReply_rxLo (a : Nibble) (sub : Byte) (d : List Byte) : (sendReply a sub d s).rxLo = s.rxLo := rfl
@[simp] theorem sendReply_buf (a : Nibble) (sub : Byte) (d : List Byte) : (sendReply a sub d s).buf = s.buf := rfl
@[simp] theorem sendReply_lastMs (a : Nibble) (sub : Byte) (d : List Byte) : (sendReply a sub d s).lastMs = s.lastMs := rfl
@[simp] theorem sendReply_ch (a : Nibble) (sub : Byte) (d : List Byte) : (sendReply a sub d s).ch = s.ch := rfl
@[simp] theorem sendReply_sensorCount (a : Nibble) (sub : Byte) (d : List Byte) : (sendReply a sub d s).sensorCount = s.sensorCount := rfl
@[simp] theorem sendReply_sens (a : Nibble) (sub : Byte) (d : List Byte) : (sendReply a sub d s).sens = s.sens := rfl
@[simp] theorem sendReply_telemetryEnable (a : Nibble) (sub : Byte) (d : List Byte) : (sendReply a sub d s).telemetryEnable = s.telemetryEnable := rfl
@[simp] theorem sendReply_cntRec (a : Nibble) (sub : Byte) (d : List Byte) : (sendReply a sub d s).cntRec = s.cntRec := rfl
@[simp] theorem sendReply_cntLenerr (a : Nibble) (sub : Byte) (d : List Byte) : (sendReply a sub d s).cntLenerr = s.cntLenerr := rfl
@[simp] theorem sendReply_cntPoll (a : Nibble) (sub : Byte) (d : List Byte) : (sendReply a sub d s).cntPoll = s.cntPoll := rfl
@[simp] theorem sendReply_cntSensor (a : Nibble) (sub : Byte) (d : List Byte) : (sendReply a sub d s).cntSensor = s.cntSensor := rfl
@[simp] theorem sendReply_tx (a : Nibble) (sub : Byte) (d : List Byte) : (sendReply a sub d s).tx = s.tx ++ encodeReply s.cfg a sub d := rfl
@[simp] theorem sendReply_results (a : Nibble) (sub : Byte) (d : List Byte) : (sendReply a sub d s).results = s.results := rfl
@[simp] theorem sendReply_outcomes (a : Nibble) (sub : Byte) (d : List Byte) : (sendReply a sub d s).outcomes = s.outcomes := rfl
@[simp] theorem sendReply_guards (a : Nibble) (sub : Byte) (d : List Byte) : (sendReply a sub d s).guards = s.guards ++ [⟨s.tx.length, s.cfg.guardUs⟩] := rfl
@[simp] theorem sendReply_freeDraws (a : Nibble) (sub : Byte) (d : List Byte) : (sendReply a sub d s).freeDraws = s.freeDraws := rfl

/-! ### enterDiscarding -/

@[simp] theorem enterDiscarding_cfg : (enterDiscarding s).cfg = s.cfg := rfl
@[simp] theorem enterDiscarding_events : (enterDiscarding s).events = s.events := rfl
@[simp] theorem enterDiscarding_initDone : (enterDiscarding s).initDone = s.initDone := rfl
@[simp] theorem enterDiscarding_dstate : (enterDiscarding s).dstate = .discarding := rfl
@[simp] theorem enterDiscarding_plen : (enterDiscarding s).plen = s.plen := rfl
@[simp] theorem enterDiscarding_ptr : (enterDiscarding s).ptr = s.ptr := rfl
@[simp] theorem enterDiscarding_acc : (enterDiscarding s).acc = s.acc := rfl
@[simp] theorem enterDiscarding_rxLo : (enterDiscarding s).rxLo = s.rxLo := rfl
@[simp] theorem enterDiscarding_buf : (enterDiscarding s).buf = s.buf := rfl
@[simp] theorem enterDiscarding_lastMs : (enterDiscarding s).lastMs = s.lastMs := rfl
@[simp] theorem enterDiscarding_ch : (enterDiscarding s).ch = s.ch := rfl
@[simp] theorem enterDiscarding_sensorCount : (enterDiscarding s).sensorCount = s.sensorCount := rfl
@[simp] theorem enterDiscarding_sens : (enterDiscarding s).sens = s.sens := rfl
@[simp] theorem enterDiscarding_telemetryEnable : (enterDiscarding s).telemetryEnable = s.telemetryEnable := rfl
@[simp] theorem enterDiscarding_cntRec : (enterDiscarding s).cntRec = s.cntRec := rfl
@[simp] theorem enterDiscarding_cntLenerr : (enterDiscarding s).cntLenerr = s.cntLenerr := rfl
@[simp] theorem enterDiscarding_cntPoll : (enterDiscarding s).cntPoll = s.cntPoll := rfl
@[simp] theorem enterDiscarding_cntSensor : (enterDiscarding s).cntSensor = s.cntSensor := rfl
@[simp] theorem enterDiscarding_tx : (enterDiscarding s).tx = s.tx := rfl
@[simp] theorem enterDiscarding_results : (enterDiscarding s).results = s.results := rfl
@[simp] theorem enterDiscarding_outcomes : (enterDiscarding s).outcomes = s.outcomes := rfl
@[simp] theorem enterDiscarding_guards : (enterDiscarding s).guards = s.guards := rfl
@[simp] theorem enterDiscarding_freeDraws : (enterDiscarding s).freeDraws = s.freeDraws := rfl

/-! ### resynchronise -/

@[simp] theorem resynchronise_cfg : (resynchronise s).cfg = s.cfg := by simp only [resynchronise]; split <;> rfl
@[simp] theorem resynchronise_events : (resynchronise s).events = s.events := by simp only [resynchronise]; split <;> rfl
@[simp] theorem resynchronise_initDone : (resynchronise s).initDone = s.initDone := by simp only [resynchronise]; split <;> rfl
@[simp] theorem resynchronise_dstate : (resynchronise s).dstate = .awaitingLength := rfl
@[simp] theorem resynchronise_plen : (resynchronise s).plen = s.plen := by simp only [resynchronise]; split <;> rfl
@[simp] theorem resynchronise_ptr : (resynchronise s).ptr = s.ptr := by simp only [resynchronise]; split <;> rfl
@[simp] theorem resynchronise_acc : (resynchronise s).acc = s.acc := by simp only [resynchronise]; split <;> rfl
@[simp] theorem resynchronise_rxLo : (resynchronise s).rxLo = s.rxLo := by simp only [resynchronise]; split <;> rfl
@[simp] theorem resynchronise_buf : (resynchronise s).buf = s.buf := by simp only [resynchronise]; split <;> rfl
@[simp] theorem resynchronise_lastMs : (resynchronise s).lastMs = s.lastMs := by simp only [resynchronise]; split <;> rfl
@[simp] theorem resynchronise_ch : (resynchronise s).ch = s.ch := by simp only [resynchronise]; split <;> rfl
@[simp] theorem resynchronise_sensorCount : (resynchronise s).sensorCount = s.sensorCount := by simp only [resynchronise]; split <;> rfl
@[simp] theorem resynchronise_sens : (resynchronise s).sens = s.sens := by simp only [resynchronise]; split <;> rfl
@[simp] theorem resynchronise_telemetryEnable : (resynchronise s).telemetryEnable = s.telemetryEnable := by simp only [resynchronise]; split <;> rfl
@[simp] theorem resynchronise_cntRec : (resynchronise s).cntRec = s.cntRec := by simp only [resynchronise]; split <;> rfl
@[simp] theorem resynchronise_cntLenerr : (resynchronise s).cntLenerr = s.cntLenerr := by simp only [resynchronise]; split <;> rfl
@[simp] theorem resynchronise_cntPoll : (resynchronise s).cntPoll = s.cntPoll := by simp only [resynchronise]; split <;> rfl
@[simp] theorem resynchronise_cntSensor : (resynchronise s).cntSensor = s.cntSensor := by simp only [resynchronise]; split <;> rfl
@[simp] theorem resynchronise_tx : (resynchronise s).tx = s.tx := by simp only [resynchronise]; split <;> rfl
@[simp] theorem resynchronise_results : (resynchronise s).results = s.results := by simp only [resynchronise]; split <;> rfl
@[simp] theorem resynchronise_guards : (resynchronise s).guards = s.guards := by simp only [resynchronise]; split <;> rfl
@[simp] theorem resynchronise_freeDraws : (resynchronise s).freeDraws = s.freeDraws := by simp only [resynchronise]; split <;> rfl

/-! ### gapRule -/

@[simp] theorem gapRule_cfg (t : Millis) : (gapRule t s).cfg = s.cfg := by simp only [gapRule]; split <;> simp
@[simp] theorem gapRule_events (t : Millis) : (gapRule t s).events = s.events := by simp only [gapRule]; split <;> simp
@[simp] theorem gapRule_initDone (t : Millis) : (gapRule t s).initDone = s.initDone := by simp only [gapRule]; split <;> simp
@[simp] theorem gapRule_plen (t : Millis) : (gapRule t s).plen = s.plen := by simp only [gapRule]; split <;> simp
@[simp] theorem gapRule_ptr (t : Millis) : (gapRule t s).ptr = s.ptr := by simp only [gapRule]; split <;> simp
@[simp] theorem gapRule_acc (t : Millis) : (gapRule t s).acc = s.acc := by simp only [gapRule]; split <;> simp
@[simp] theorem gapRule_rxLo (t : Millis) : (gapRule t s).rxLo = s.rxLo := by simp only [gapRule]; split <;> simp
@[simp] theorem gapRule_buf (t : Millis) : (gapRule t s).buf = s.buf := by simp only [gapRule]; split <;> simp
@[simp] theorem gapRule_lastMs (t : Millis) : (gapRule t s).lastMs = t := rfl
@[simp] theorem gapRule_ch (t : Millis) : (gapRule t s).ch = s.ch := by simp only [gapRule]; split <;> simp
@[simp] theorem gapRule_sensorCount (t : Millis) : (gapRule t s).sensorCount = s.sensorCount := by simp only [gapRule]; split <;> simp
@[simp] theorem gapRule_sens (t : Millis) : (gapRule t s).sens = s.sens := by simp only [gapRule]; split <;> simp
@[simp] theorem gapRule_telemetryEnable (t : Millis) : (gapRule t s).telemetryEnable = s.telemetryEnable := by simp only [gapRule]; split <;> simp
@[simp] theorem gapRule_cntRec (t : Millis) : (gapRule t s).cntRec = s.cntRec := by simp only [gapRule]; split <;> simp
@[simp] theorem gapRule_cntLenerr (t : Millis) : (gapRule t s).cntLenerr = s.cntLenerr := by simp only [gapRule]; split <;> simp
@[simp] theorem gapRule_cntPoll (t : Millis) : (gapRule t s).cntPoll = s.cntPoll := by simp only [gapRule]; split <;> simp
@[simp] theorem gapRule_cntSensor (t : Millis) : (gapRule t s).cntSensor = s.cntSensor := by simp only [gapRule]; split <;> simp
@[simp] theorem gapRule_tx (t : Millis) : (gapRule t s).tx = s.tx := by simp only [gapRule]; split <;> simp
@[simp] theorem gapRule_results (t : Millis) : (gapRule t s).results = s.results := by simp only [gapRule]; split <;> simp
@[simp] theorem gapRule_guards (t : Millis) : (gapRule t s).guards = s.guards := by simp only [gapRule]; split <;> simp
@[simp] theorem gapRule_freeDraws (t : Millis) : (gapRule t s).freeDraws = s.freeDraws := by simp only [gapRule]; split <;> simp

/-! ### writeChannels -/

@[simp] theorem writeChannels_cfg (d : List Byte) : (writeChannels d s).cfg = s.cfg := rfl
@[simp] theorem writeChannels_events (d : List Byte) : (writeChannels d s).events = s.events := rfl
@[simp] theorem writeChannels_initDone (d : List Byte) : (writeChannels d s).initDone = s.initDone := rfl
@[simp] theorem writeChannels_dstate (d : List Byte) : (writeChannels d s).dstate = s.dstate := rfl
@[simp] theorem writeChannels_plen (d : List Byte) : (writeChannels d s).plen = s.plen := rfl
@[simp] theorem writeChannels_ptr (d : List Byte) : (writeChannels d s).ptr = s.ptr := rfl
@[simp] theorem writeChannels_acc (d : List Byte) : (writeChannels d s).acc = s.acc := rfl
@[simp] theorem writeChannels_rxLo (d : List Byte) : (writeChannels d s).rxLo = s.rxLo := rfl
@[simp] theorem writeChannels_buf (d : List Byte) : (writeChannels d s).buf = s.buf := rfl
@[simp] theorem writeChannels_lastMs (d : List Byte) : (writeChannels d s).lastMs = s.lastMs := rfl
@[simp] theorem writeChannels_sensorCount (d : List Byte) : (writeChannels d s).sensorCount = s.sensorCount := rfl
@[simp] theorem writeChannels_sens (d : List Byte) : (writeChannels d s).sens = s.sens := rfl
@[simp] theorem writeChannels_telemetryEnable (d : List Byte) : (writeChannels d s).telemetryEnable = s.telemetryEnable := rfl
@[simp] theorem writeChannels_cntRec (d : List Byte) : (writeChannels d s).cntRec = s.cntRec := rfl
@[simp] theorem writeChannels_cntLenerr (d : List Byte) : (writeChannels d s).cntLenerr = s.cntLenerr := rfl
@[simp] theorem writeChannels_cntPoll (d : List Byte) : (writeChannels d s).cntPoll = s.cntPoll := rfl
@[simp] theorem writeChannels_cntSensor (d : List Byte) : (writeChannels d s).cntSensor = s.cntSensor := rfl
@[simp] theorem writeChannels_tx (d : List Byte) : (writeChannels d s).tx = s.tx := rfl
@[simp] theorem writeChannels_results (d : List Byte) : (writeChannels d s).results = s.results := rfl
@[simp] theorem writeChannels_outcomes (d : List Byte) : (writeChannels d s).outcomes = s.outcomes := rfl
@[simp] theorem writeChannels_guards (d : List Byte) : (writeChannels d s).guards = s.guards := rfl
@[simp] theorem writeChannels_freeDraws (d : List Byte) : (writeChannels d s).freeDraws = s.freeDraws := rfl

/-! ### lengthAccept -/

@[simp] theorem lengthAccept_cfg (b : Byte) : (lengthAccept b s).cfg = s.cfg := rfl
@[simp] theorem lengthAccept_events (b : Byte) : (lengthAccept b s).events = s.events := rfl
@[simp] theorem lengthAccept_initDone (b : Byte) : (lengthAccept b s).initDone = s.initDone := rfl
@[simp] theorem lengthAccept_dstate (b : Byte) : (lengthAccept b s).dstate = .accumulatingPayload := rfl
@[simp] theorem lengthAccept_plen (b : Byte) : (lengthAccept b s).plen = BitVec.ofNat 5 (b.toNat - s.cfg.overhead) := rfl
@[simp] theorem lengthAccept_ptr (b : Byte) : (lengthAccept b s).ptr = 0#5 := rfl
@[simp] theorem lengthAccept_acc (b : Byte) : (lengthAccept b s).acc = 0xFFFF#16 - b.setWidth 16 := rfl
@[simp] theorem lengthAccept_rxLo (b : Byte) : (lengthAccept b s).rxLo = s.rxLo := rfl
@[simp] theorem lengthAccept_buf (b : Byte) : (lengthAccept b s).buf = s.buf := rfl
@[simp] theorem lengthAccept_lastMs (b : Byte) : (lengthAccept b s).lastMs = s.lastMs := rfl
@[simp] theorem lengthAccept_ch (b : Byte) : (lengthAccept b s).ch = s.ch := rfl
@[simp] theorem lengthAccept_sensorCount (b : Byte) : (lengthAccept b s).sensorCount = s.sensorCount := rfl
@[simp] theorem lengthAccept_sens (b : Byte) : (lengthAccept b s).sens = s.sens := rfl
@[simp] theorem lengthAccept_telemetryEnable (b : Byte) : (lengthAccept b s).telemetryEnable = s.telemetryEnable := rfl
@[simp] theorem lengthAccept_cntRec (b : Byte) : (lengthAccept b s).cntRec = s.cntRec := rfl
@[simp] theorem lengthAccept_cntLenerr (b : Byte) : (lengthAccept b s).cntLenerr = s.cntLenerr := rfl
@[simp] theorem lengthAccept_cntPoll (b : Byte) : (lengthAccept b s).cntPoll = s.cntPoll := rfl
@[simp] theorem lengthAccept_cntSensor (b : Byte) : (lengthAccept b s).cntSensor = s.cntSensor := rfl
@[simp] theorem lengthAccept_tx (b : Byte) : (lengthAccept b s).tx = s.tx := rfl
@[simp] theorem lengthAccept_results (b : Byte) : (lengthAccept b s).results = s.results := rfl
@[simp] theorem lengthAccept_outcomes (b : Byte) : (lengthAccept b s).outcomes = s.outcomes := rfl
@[simp] theorem lengthAccept_guards (b : Byte) : (lengthAccept b s).guards = s.guards := rfl
@[simp] theorem lengthAccept_freeDraws (b : Byte) : (lengthAccept b s).freeDraws = s.freeDraws := rfl

/-! ### payloadByte -/

@[simp] theorem payloadByte_cfg (b : Byte) : (payloadByte b s).cfg = s.cfg := rfl
@[simp] theorem payloadByte_events (b : Byte) : (payloadByte b s).events = s.events := rfl
@[simp] theorem payloadByte_initDone (b : Byte) : (payloadByte b s).initDone = s.initDone := rfl
@[simp] theorem payloadByte_dstate (b : Byte) : (payloadByte b s).dstate = if s.ptr + 1#5 = s.plen then .awaitingChecksumLow else s.dstate := rfl
@[simp] theorem payloadByte_plen (b : Byte) : (payloadByte b s).plen = s.plen := rfl
@[simp] theorem payloadByte_ptr (b : Byte) : (payloadByte b s).ptr = s.ptr + 1#5 := rfl
@[simp] theorem payloadByte_acc (b : Byte) : (payloadByte b s).acc = s.acc - b.setWidth 16 := rfl
@[simp] theorem payloadByte_rxLo (b : Byte) : (payloadByte b s).rxLo = s.rxLo := rfl
@[simp] theorem payloadByte_buf (b : Byte) : (payloadByte b s).buf = s.buf.setIfInBounds s.ptr.toNat b := rfl
@[simp] theorem payloadByte_lastMs (b : Byte) : (payloadByte b s).lastMs = s.lastMs := rfl
@[simp] theorem payloadByte_ch (b : Byte) : (payloadByte b s).ch = s.ch := rfl
@[simp] theorem payloadByte_sensorCount (b : Byte) : (payloadByte b s).sensorCount = s.sensorCount := rfl
@[simp] theorem payloadByte_sens (b : Byte) : (payloadByte b s).sens = s.sens := rfl
@[simp] theorem payloadByte_telemetryEnable (b : Byte) : (payloadByte b s).telemetryEnable = s.telemetryEnable := rfl
@[simp] theorem payloadByte_cntRec (b : Byte) : (payloadByte b s).cntRec = s.cntRec := rfl
@[simp] theorem payloadByte_cntLenerr (b : Byte) : (payloadByte b s).cntLenerr = s.cntLenerr := rfl
@[simp] theorem payloadByte_cntPoll (b : Byte) : (payloadByte b s).cntPoll = s.cntPoll := rfl
@[simp] theorem payloadByte_cntSensor (b : Byte) : (payloadByte b s).cntSensor = s.cntSensor := rfl
@[simp] theorem payloadByte_tx (b : Byte) : (payloadByte b s).tx = s.tx := rfl
@[simp] theorem payloadByte_results (b : Byte) : (payloadByte b s).results = s.results := rfl
@[simp] theorem payloadByte_outcomes (b : Byte) : (payloadByte b s).outcomes = s.outcomes := rfl
@[simp] theorem payloadByte_guards (b : Byte) : (payloadByte b s).guards = s.guards := rfl
@[simp] theorem payloadByte_freeDraws (b : Byte) : (payloadByte b s).freeDraws = s.freeDraws := rfl

/-! ### checksumLow -/

@[simp] theorem checksumLow_cfg (b : Byte) : (checksumLow b s).cfg = s.cfg := rfl
@[simp] theorem checksumLow_events (b : Byte) : (checksumLow b s).events = s.events := rfl
@[simp] theorem checksumLow_initDone (b : Byte) : (checksumLow b s).initDone = s.initDone := rfl
@[simp] theorem checksumLow_dstate (b : Byte) : (checksumLow b s).dstate = .awaitingChecksumHigh := rfl
@[simp] theorem checksumLow_plen (b : Byte) : (checksumLow b s).plen = s.plen := rfl
@[simp] theorem checksumLow_ptr (b : Byte) : (checksumLow b s).ptr = s.ptr := rfl
@[simp] theorem checksumLow_acc (b : Byte) : (checksumLow b s).acc = s.acc := rfl
@[simp] theorem checksumLow_rxLo (b : Byte) : (checksumLow b s).rxLo = b := rfl
@[simp] theorem checksumLow_buf (b : Byte) : (checksumLow b s).buf = s.buf := rfl
@[simp] theorem checksumLow_lastMs (b : Byte) : (checksumLow b s).lastMs = s.lastMs := rfl
@[simp] theorem checksumLow_ch (b : Byte) : (checksumLow b s).ch = s.ch := rfl
@[simp] theorem checksumLow_sensorCount (b : Byte) : (checksumLow b s).sensorCount = s.sensorCount := rfl
@[simp] theorem checksumLow_sens (b : Byte) : (checksumLow b s).sens = s.sens := rfl
@[simp] theorem checksumLow_telemetryEnable (b : Byte) : (checksumLow b s).telemetryEnable = s.telemetryEnable := rfl
@[simp] theorem checksumLow_cntRec (b : Byte) : (checksumLow b s).cntRec = s.cntRec := rfl
@[simp] theorem checksumLow_cntLenerr (b : Byte) : (checksumLow b s).cntLenerr = s.cntLenerr := rfl
@[simp] theorem checksumLow_cntPoll (b : Byte) : (checksumLow b s).cntPoll = s.cntPoll := rfl
@[simp] theorem checksumLow_cntSensor (b : Byte) : (checksumLow b s).cntSensor = s.cntSensor := rfl
@[simp] theorem checksumLow_tx (b : Byte) : (checksumLow b s).tx = s.tx := rfl
@[simp] theorem checksumLow_results (b : Byte) : (checksumLow b s).results = s.results := rfl
@[simp] theorem checksumLow_outcomes (b : Byte) : (checksumLow b s).outcomes = s.outcomes := rfl
@[simp] theorem checksumLow_guards (b : Byte) : (checksumLow b s).guards = s.guards := rfl
@[simp] theorem checksumLow_freeDraws (b : Byte) : (checksumLow b s).freeDraws = s.freeDraws := rfl

/-! ### pushEvent -/

@[simp] theorem pushEvent_cfg (e : EventWord) : (pushEvent e s).cfg = s.cfg := rfl
@[simp] theorem pushEvent_events (e : EventWord) : (pushEvent e s).events = e :: s.events := rfl
@[simp] theorem pushEvent_initDone (e : EventWord) : (pushEvent e s).initDone = s.initDone := rfl
@[simp] theorem pushEvent_dstate (e : EventWord) : (pushEvent e s).dstate = s.dstate := rfl
@[simp] theorem pushEvent_plen (e : EventWord) : (pushEvent e s).plen = s.plen := rfl
@[simp] theorem pushEvent_ptr (e : EventWord) : (pushEvent e s).ptr = s.ptr := rfl
@[simp] theorem pushEvent_acc (e : EventWord) : (pushEvent e s).acc = s.acc := rfl
@[simp] theorem pushEvent_rxLo (e : EventWord) : (pushEvent e s).rxLo = s.rxLo := rfl
@[simp] theorem pushEvent_buf (e : EventWord) : (pushEvent e s).buf = s.buf := rfl
@[simp] theorem pushEvent_lastMs (e : EventWord) : (pushEvent e s).lastMs = s.lastMs := rfl
@[simp] theorem pushEvent_ch (e : EventWord) : (pushEvent e s).ch = s.ch := rfl
@[simp] theorem pushEvent_sensorCount (e : EventWord) : (pushEvent e s).sensorCount = s.sensorCount := rfl
@[simp] theorem pushEvent_sens (e : EventWord) : (pushEvent e s).sens = s.sens := rfl
@[simp] theorem pushEvent_telemetryEnable (e : EventWord) : (pushEvent e s).telemetryEnable = s.telemetryEnable := rfl
@[simp] theorem pushEvent_cntRec (e : EventWord) : (pushEvent e s).cntRec = s.cntRec := rfl
@[simp] theorem pushEvent_cntLenerr (e : EventWord) : (pushEvent e s).cntLenerr = s.cntLenerr := rfl
@[simp] theorem pushEvent_cntPoll (e : EventWord) : (pushEvent e s).cntPoll = s.cntPoll := rfl
@[simp] theorem pushEvent_cntSensor (e : EventWord) : (pushEvent e s).cntSensor = s.cntSensor := rfl
@[simp] theorem pushEvent_tx (e : EventWord) : (pushEvent e s).tx = s.tx := rfl
@[simp] theorem pushEvent_results (e : EventWord) : (pushEvent e s).results = s.results := rfl
@[simp] theorem pushEvent_outcomes (e : EventWord) : (pushEvent e s).outcomes = s.outcomes := rfl
@[simp] theorem pushEvent_guards (e : EventWord) : (pushEvent e s).guards = s.guards := rfl
@[simp] theorem pushEvent_freeDraws (e : EventWord) : (pushEvent e s).freeDraws = s.freeDraws := rfl

end Sys2Proof.Machine
end

