-- ==== Sys2Proof/Laws/Ops.lean ====
section
/-!
SUPPORT. For each shared operation, the lemma that says once what it can do: storage reads after writes, the gap rule,
the outcomes of an event, the selection of a row, the dispatch of a frame, the step.
-/

namespace Sys2Proof.Machine

/-- The configurations that run, as numbers. -/
theorem legal_iff (c : Config) : c.legal = true ↔
    (c.sensorCapacity ≤ 15 ∧ c.maxLength ≤ 0xFF ∧ c.overhead < c.maxLength ∧ 2 * c.channels + 1 ≤ c.payloadMax) ∧
    (1 ≤ c.sensorCapacity ∧ 10 ≤ c.guardUs ∧ c.payloadMax = c.maxLength - c.overhead ∧ 1 ≤ c.channels ∧
      1 ≤ c.clockBits ∧ 1 ≤ c.counterBits) ∧
    (c.payloadMax ≤ 29 ∧ c.channels ≤ 10 ∧ c.clockBits ≤ 32 ∧ c.counterBits ≤ 32) := by
  simp only [Config.legal, Config.meetsR8, Config.inRange, Config.fits, Bool.and_eq_true, decide_eq_true_eq,
    and_assoc]
  exact Iff.rfl

/-- R7's values, with the OPEN parameters at the test vectors' values, run. -/
theorem standard_legal : Config.standard.legal = true := by decide

/-- The accepted length bytes as numbers (R102). -/
theorem lengthAccepted_iff (c : Config) (b : Byte) :
    lengthAccepted c b = true ↔ c.overhead < b.toNat ∧ b.toNat ≤ c.maxLength := by
  simp only [lengthAccepted, Bool.and_eq_true, decide_eq_true_eq]

/-- The rejected length bytes as numbers (R103). -/
theorem lengthAccepted_eq_false_iff (c : Config) (b : Byte) :
    lengthAccepted c b = false ↔ b.toNat ≤ c.overhead ∨ c.maxLength < b.toNat := by
  rw [← Bool.not_eq_true, lengthAccepted_iff]
  omega

/-- The length byte of a frame that fits, as a number (R70, R152). -/
theorem frameLength_toNat (c : Config) (data : List Byte) (hc : c.legal = true) (hd : data.length + 1 ≤ c.payloadMax) :
    (frameLength c data).toNat = c.overhead + 1 + data.length := by
  obtain ⟨⟨-, hm, -, -⟩, ⟨-, -, hp, -⟩, -⟩ := (legal_iff c).1 hc
  simp only [frameLength, BitVec.toNat_ofNat]
  omega

/-- The dispatch condition of a poll (R151). -/
theorem pollDispatched_iff (a : Nibble) (s : State) :
    pollDispatched a s = true ↔ s.telemetryEnable = true ∧ 1 ≤ a.toNat ∧ a.toNat ≤ s.sensorCount := by
  simp [pollDispatched, dispatchedPoll, and_assoc]

/-! ### Storage (R50) -/

/-- A read of the buffer after a write: the written byte at the written index, every other byte as before. -/
theorem readBuf_writeBuf (i j : Nat) (b : Byte) (s : State) :
    readBuf j (writeBuf i b s) = if i = j ∧ j < 29 then b else readBuf j s := by
  simp only [readBuf, writeBuf, Vector.getElem?_setIfInBounds]
  by_cases h : i = j
  · subst h
    by_cases h' : i < 29 <;> simp [h']
  · simp [h]

/-- A read of a sensor entry after a write of an existing slot. -/
theorem readSensor_writeSensor (n m : Nat) (e : Sensor) (s : State) (hn : 1 ≤ n) (hn' : n ≤ 15) :
    readSensor m (writeSensor n e s) = if n = m then e else readSensor m s := by
  have h0 : n ≠ 0 := by omega
  simp only [readSensor, writeSensor, h0, if_false]
  by_cases hm : m = 0
  · simp [hm, h0]
  · simp only [hm, if_false, Vector.getElem?_setIfInBounds]
    by_cases h : n = m
    · subst h
      have : n - 1 < 15 := by omega
      simp [this]
    · have : ¬ n - 1 = m - 1 := by omega
      simp [h, this]

/-- A write of a sensor entry leaves every other slot as it was, in every state. -/
theorem readSensor_writeSensor_of_ne (n m : Nat) (e : Sensor) (s : State) (h : n ≠ m) :
    readSensor m (writeSensor n e s) = readSensor m s := by
  simp only [readSensor, writeSensor]
  by_cases hn : n = 0
  · simp [hn]
  · by_cases hm : m = 0
    · simp [hm]
    · have : ¬ n - 1 = m - 1 := by omega
      simp [hn, hm, this]

/-- A channel after a control frame: the pair where it is wholly present, the old value where it is not (R131, R132). -/
theorem readCh_writeChannels (d : List Byte) (i : Nat) (hi : i < 10) (s : State) :
    readCh i (writeChannels d s) =
      if i < s.cfg.channels ∧ pairPresent d i then channelPair d i else readCh i s := by
  simp [readCh, writeChannels, hi]

/-- The buffer after a frame's payload is stored at its start. -/
theorem readBuf_fillBuf (p : List Byte) (i : Nat) (hi : i < 29) (s : State) :
    readBuf i (fillBuf p s) = p[i]?.getD (readBuf i s) := by
  simp [readBuf, fillBuf, hi]

/-! ### Counters and observations -/

/-- With `P_COUNTER_BITS = 32`, R7's value, a counter steps as a 32-bit number. -/
theorem nextCount_of_32 (c : Config) (x : Counter) (h : c.counterBits = 32) : nextCount c x = x + 1#32 := by
  apply BitVec.eq_of_toNat_eq
  simp [nextCount, h]

/-- With `P_CLOCK_BITS = 32`, R7's value, the elapsed time is the 32-bit difference. -/
theorem elapsed_of_32 (t : Millis) (s : State) (h : s.cfg.clockBits = 32) : elapsed t s = (t - s.lastMs).toNat := by
  simp only [elapsed, h]
  exact Nat.mod_eq_of_lt (t - s.lastMs).isLt

/-- `cnt_poll` after a poll that the scopes in `l` count (R160). -/
theorem countPoll_cntPoll (l : List PollCountScope) (s : State) :
    (countPoll l s).cntPoll = if s.cfg.pollCountScope ∈ l then nextCount s.cfg s.cntPoll else s.cntPoll := by
  simp only [countPoll]
  split <;> rfl

/-- The outcomes after a resynchronisation. -/
theorem resynchronise_outcomes (s : State) :
    (resynchronise s).outcomes =
      if holdsPartialFrame s.dstate then s.outcomes ++ [.frameAbandoned s.dstate] else s.outcomes := by
  simp only [resynchronise]
  split <;> rfl

/-! ### The gap rule (R100) -/

/-- The gap rule's condition. -/
theorem gapExceeded_iff (t : Millis) (s : State) :
    gapExceeded t s = true ↔ s.cfg.gapMs < (t - s.lastMs).toNat % 2 ^ s.cfg.clockBits :=
  decide_eq_true_iff

/-- The gap rule's condition does not hold. -/
theorem gapExceeded_eq_false_iff (t : Millis) (s : State) :
    gapExceeded t s = false ↔ (t - s.lastMs).toNat % 2 ^ s.cfg.clockBits ≤ s.cfg.gapMs := by
  rw [← Bool.not_eq_true, gapExceeded_iff, Nat.not_lt]

/-- Without a gap the rule writes `last_ms` alone. -/
theorem gapRule_of_no_gap (t : Millis) (s : State) (h : gapExceeded t s = false) :
    gapRule t s = { s with lastMs := t } := by
  simp [gapRule, h]

/-- With a gap the decoder is resynchronised. -/
theorem gapRule_of_gap (t : Millis) (s : State) (h : gapExceeded t s = true) :
    gapRule t s = { resynchronise s with lastMs := t } := by
  simp [gapRule, h]

/-- The decoder state after the gap rule. -/
theorem gapRule_dstate (t : Millis) (s : State) :
    (gapRule t s).dstate = if gapExceeded t s then .awaitingLength else s.dstate := by
  simp only [gapRule]
  split <;> simp

/-! ### Outcomes of an event (R39) -/

/-- An event that R39 guards answers a next state exactly after INIT. -/
theorem afterInit_eq_next (s t u : State) : afterInit s t = .next u ↔ s.initDone = true ∧ t = u := by
  simp only [afterInit]
  split <;> simp_all

/-- After INIT the guarded event runs. -/
theorem afterInit_of_initDone (s t : State) (h : s.initDone = true) : afterInit s t = .next t := by
  simp [afterInit, h]

/-- Before INIT it is refused. -/
theorem afterInit_of_not_initDone (s t : State) (h : s.initDone = false) : afterInit s t = .refused .beforeInit := by
  simp [afterInit, h]

/-! ### Rows and frames (R77, R101) -/

/-- A row runs its own rule where the decoder state selects it. -/
theorem onRow_of_selected (r : RxRow) (rule : State → State) (b : Byte) (s : State)
    (h : selectRx s.cfg s.dstate b = r) :
    onRow r rule b s = rule s := by
  simp [onRow, h]

/-- A row runs the selected rule where the decoder state selects another. -/
theorem onRow_of_not_selected (r : RxRow) (rule : State → State) (b : Byte) (s : State)
    (h : selectRx s.cfg s.dstate b ≠ r) : onRow r rule b s = perState b s := by
  simp [onRow, h]

/-- What the per-state rule can be. -/
theorem perState_cases (b : Byte) (s : State) :
    (s.dstate = .awaitingLength ∧ lengthAccepted s.cfg b = true ∧ perState b s = lengthAccept b s) ∨
    (s.dstate = .awaitingLength ∧ lengthAccepted s.cfg b = false ∧ perState b s = lengthReject b s) ∨
    (s.dstate = .accumulatingPayload ∧ perState b s = payloadByte b s) ∨
    (s.dstate = .awaitingChecksumLow ∧ perState b s = checksumLow b s) ∨
    (s.dstate = .awaitingChecksumHigh ∧ perState b s = checksumHigh b s) ∨
    (s.dstate = .discarding ∧ perState b s = s) := by
  cases hd : s.dstate <;> cases hl : lengthAccepted s.cfg b <;> simp [perState, selectRx, rowRule, hd, hl, discardByte]

/-- What the operation map can answer (R77). -/
theorem classify_cases (en : Bool) (count plen : Nat) (cmd : Byte) (data : List Byte) :
    (cmd = cmdSetChannels ∧ classify en count plen cmd data = .setChannels data) ∨
    (cmd ≠ cmdSetChannels ∧ dispatchedPoll en count plen (cmdAddr cmd) = true ∧
      ((cmdSub cmd = subDiscover ∧ classify en count plen cmd data = .pollDiscover (cmdAddr cmd)) ∨
       (cmdSub cmd = subType ∧ classify en count plen cmd data = .pollType (cmdAddr cmd)) ∨
       (cmdSub cmd = subValue ∧ classify en count plen cmd data = .pollValue (cmdAddr cmd)) ∨
       (cmdSub cmd ≠ subDiscover ∧ cmdSub cmd ≠ subType ∧ cmdSub cmd ≠ subValue ∧
         classify en count plen cmd data = .pollUnknown cmd))) ∨
    (cmd ≠ cmdSetChannels ∧ dispatchedPoll en count plen (cmdAddr cmd) = false ∧
      classify en count plen cmd data = .ignored cmd data) := by
  unfold classify
  by_cases h : cmd = cmdSetChannels
  · exact .inl ⟨h, if_pos h⟩
  · by_cases hp : dispatchedPoll en count plen (cmdAddr cmd) = true
    · refine .inr (.inl ⟨h, hp, ?_⟩)
      by_cases h8 : cmdSub cmd = subDiscover
      · exact .inl ⟨h8, by rw [if_neg h, if_pos hp, if_pos h8]⟩
      by_cases h9 : cmdSub cmd = subType
      · exact .inr (.inl ⟨h9, by rw [if_neg h, if_pos hp, if_neg h8, if_pos h9]⟩)
      by_cases ha : cmdSub cmd = subValue
      · exact .inr (.inr (.inl ⟨ha, by rw [if_neg h, if_pos hp, if_neg h8, if_neg h9, if_pos ha]⟩))
      · exact .inr (.inr (.inr ⟨h8, h9, ha, by rw [if_neg h, if_pos hp, if_neg h8, if_neg h9, if_neg ha]⟩))
    · exact .inr (.inr ⟨h, by simpa using hp, by rw [if_neg h, if_neg hp]⟩)

/-- What the dispatch of a frame can be. An answered poll is a dispatched one. -/
theorem dispatchFrame_cases (s : State) :
    dispatchFrame s = setChannels (frameData s) s ∨
    (∃ a, pollDispatched a s = true ∧
      (dispatchFrame s = answerDiscover a s ∨ dispatchFrame s = answerType a s ∨ dispatchFrame s = answerValue a s)) ∨
    dispatchFrame s = unknownPoll (frameCommand s) s ∨ dispatchFrame s = ignoreFrame (frameCommand s) s := by
  have hp : dispatchedPoll s.telemetryEnable s.sensorCount s.plen.toNat (cmdAddr (frameCommand s)) = true →
      pollDispatched (cmdAddr (frameCommand s)) s = true := by
    simp only [pollDispatched, dispatchedPoll, Bool.and_eq_true, beq_self_eq_true]
    exact fun h => ⟨⟨⟨trivial, h.1.1.2⟩, h.1.2⟩, h.2⟩
  unfold dispatchFrame frameOp
  rcases classify_cases s.telemetryEnable s.sensorCount s.plen.toNat (frameCommand s) (frameData s) with
    ⟨-, h⟩ | ⟨-, hd, ⟨-, h⟩ | ⟨-, h⟩ | ⟨-, h⟩ | ⟨-, -, -, h⟩⟩ | ⟨-, -, h⟩ <;> rw [h]
  · exact .inl rfl
  · exact .inr (.inl ⟨_, hp hd, .inl rfl⟩)
  · exact .inr (.inl ⟨_, hp hd, .inr (.inl rfl)⟩)
  · exact .inr (.inl ⟨_, hp hd, .inr (.inr rfl)⟩)
  · exact .inr (.inr (.inl rfl))
  · exact .inr (.inr (.inr rfl))

/-! ### The step -/

/-- All that a step with a next state can be: idle, or one event's instruction in the state without that event. -/
theorem step_next_cases (s s' : State) (h : step s = .next s') :
    s.cfg.legal = true ∧
      ((s.events = [] ∧ s' = s) ∨
        ∃ e rest i, s.events = e :: rest ∧ decodeEvent e = .ok i ∧ exec i { s with events := rest } = .next s') := by
  unfold step nextEvent at h
  by_cases hl : s.cfg.legal = true
  · refine ⟨hl, ?_⟩
    cases he : s.events with
    | nil =>
      simp only [hl, he, if_true, Host.Outcome.next.injEq] at h
      exact .inl ⟨rfl, h.symm⟩
    | cons e rest =>
      cases hd : decodeEvent e with
      | ok i =>
        simp only [hl, he, hd, if_true] at h
        exact .inr ⟨e, rest, i, rfl, hd, h⟩
      | error r => simp [hl, he, hd] at h
  · simp [hl] at h

end Sys2Proof.Machine
end

