-- ==== Sys2Proof/Laws/PerInstr.lean ====
section
/-!
SUPPORT. The family TableMatch: the encoding of every well-formed instruction has its opcode-table row's fixed bits
(`word &&& mask = match`, with the masks and matches of spec/opcode_table.json). The word of a frame row is its command
byte, frame byte 1, as the table's format column says.
-/

namespace Sys2Proof.Laws

/-- The bits of an encoding that its table row gives mask and match for. -/
def tableBits : Code → BitVec 64
  | .event e => e
  | .rxEvent _ e => e
  | .inbound _ _ bytes => (bytes[1]?.getD 0).setWidth 64
  | .outbound bytes => (bytes[1]?.getD 0).setWidth 64

/-- The mask and the match of each row of spec/opcode_table.json. -/
def rowPattern : Instr → BitVec 64 × BitVec 64
  | .setChannels _ => (0xFF, 0x40)
  | .pollDiscover _ => (0xF0, 0x80)
  | .pollType _ => (0xF0, 0x90)
  | .pollValue _ => (0xF0, 0xA0)
  | .pollUnknown _ => (0x00, 0x00)
  | .ignored _ _ => (0x00, 0x00)
  | .replyDiscover _ => (0xF0, 0x80)
  | .replyType _ _ => (0xF0, 0x90)
  | .replyValue _ _ => (0xF0, 0xA0)
  | .rxLengthAccept _ _ => (0x00000000FFFF00FF, 1)
  | .rxLengthReject _ _ => (0x00000000FFFF00FF, 1)
  | .rxPayload _ _ => (0x00000000FFFF00FF, 1)
  | .rxChecksumLow _ _ => (0x00000000FFFF00FF, 1)
  | .rxChecksumHigh _ _ => (0x00000000FFFF00FF, 1)
  | .rxDiscard _ _ => (0x00000000FFFF00FF, 1)
  | .init _ _ => (0x00000000FFFFFFF7, 0)
  | .rxByte _ _ => (0x00000000FFFF00FF, 1)
  | .readChannel _ => (0xFFFFFFFFFFFF00FF, 2)
  | .registerSensor _ => (0xFFFFFFFFFFFF00FF, 3)
  | .setSensorValue _ _ => (0xFFFFFFFF000000FF, 4)
  | .readCounter _ => (0xFFFFFFFFFFFF00FF, 5)
  | .reservedOp110 _ => (7, 6)
  | .reservedOp111 _ => (7, 7)

/-- The fixed bits of the row stand in the encoding, whatever the parameters. -/
def TableMatch.Statement (i : Instr) : Prop :=
  ∀ c : Config, i.wf c = true → tableBits (encode c i) &&& (rowPattern i).1 = (rowPattern i).2

/-- The word of RX_BYTE has its row's fixed bits. -/
theorem rxWord_match (b : Byte) (t : Millis) : rxWord b t &&& 0x00000000FFFF00FF = 1 := by
  apply BitVec.eq_of_getLsbD_eq
  intro i hi
  interval_cases i <;> simp [rxWord]

/-- The word of a host event with one 8-bit field. -/
theorem hostWord_match (op : BitVec 3) (b : Byte) :
    hostWord op b 0#16 &&& 0xFFFFFFFFFFFF00FF = op.setWidth 64 := by
  apply BitVec.eq_of_getLsbD_eq
  intro i hi
  interval_cases i <;> simp [hostWord]

/-- The word of SET_SENSOR_VALUE. -/
theorem setWord_match (b : Byte) (h : Half) : hostWord 4#3 b h &&& 0xFFFFFFFF000000FF = 4 := by
  apply BitVec.eq_of_getLsbD_eq
  intro i hi
  interval_cases i <;> simp [hostWord]

/-- The word of INIT. -/
theorem initWord_match (en : Bool) (t : Millis) : initWord en t &&& 0x00000000FFFFFFF7 = 0 := by
  apply BitVec.eq_of_getLsbD_eq
  intro i hi
  interval_cases i <;> simp [initWord]

/-- The low three bits of a reserved operation's word. -/
theorem reservedWord_match (op : BitVec 3) (x : BitVec 61) : reservedWord op x &&& 7 = op.setWidth 64 := by
  apply BitVec.eq_of_getLsbD_eq
  intro i hi
  interval_cases i <;> simp [reservedWord]

/-- The command byte of a poll or a reply has its sub-command's high nibble. -/
theorem commandByte_match (a : Nibble) :
    (commandByte subDiscover a).setWidth 64 &&& 0xF0 = (0x80 : BitVec 64) ∧
      (commandByte subType a).setWidth 64 &&& 0xF0 = (0x90 : BitVec 64) ∧
      (commandByte subValue a).setWidth 64 &&& 0xF0 = (0xA0 : BitVec 64) := by
  revert a; decide

theorem TableMatch.setChannels (data : List Byte) : TableMatch.Statement (.setChannels data) :=
  fun _ _ => show cmdSetChannels.setWidth 64 &&& 0xFF = (0x40 : BitVec 64) by decide

theorem TableMatch.pollDiscover (a : Nibble) : TableMatch.Statement (.pollDiscover a) :=
  fun _ _ => (commandByte_match a).1

theorem TableMatch.pollType (a : Nibble) : TableMatch.Statement (.pollType a) :=
  fun _ _ => (commandByte_match a).2.1

theorem TableMatch.pollValue (a : Nibble) : TableMatch.Statement (.pollValue a) :=
  fun _ _ => (commandByte_match a).2.2

theorem TableMatch.pollUnknown (cmd : Byte) : TableMatch.Statement (.pollUnknown cmd) :=
  fun _ _ => BitVec.and_zero

theorem TableMatch.ignored (cmd : Byte) (data : List Byte) : TableMatch.Statement (.ignored cmd data) :=
  fun _ _ => BitVec.and_zero

theorem TableMatch.replyDiscover (a : Nibble) : TableMatch.Statement (.replyDiscover a) :=
  fun _ _ => (commandByte_match a).1

theorem TableMatch.replyType (a : Nibble) (ty : Byte) : TableMatch.Statement (.replyType a ty) :=
  fun _ _ => (commandByte_match a).2.1

theorem TableMatch.replyValue (a : Nibble) (v : Half) : TableMatch.Statement (.replyValue a v) :=
  fun _ _ => (commandByte_match a).2.2

theorem TableMatch.rxLengthAccept (b : Byte) (t : Millis) : TableMatch.Statement (.rxLengthAccept b t) :=
  fun _ _ => rxWord_match b t

theorem TableMatch.rxLengthReject (b : Byte) (t : Millis) : TableMatch.Statement (.rxLengthReject b t) :=
  fun _ _ => rxWord_match b t

theorem TableMatch.rxPayload (b : Byte) (t : Millis) : TableMatch.Statement (.rxPayload b t) :=
  fun _ _ => rxWord_match b t

theorem TableMatch.rxChecksumLow (b : Byte) (t : Millis) : TableMatch.Statement (.rxChecksumLow b t) :=
  fun _ _ => rxWord_match b t

theorem TableMatch.rxChecksumHigh (b : Byte) (t : Millis) : TableMatch.Statement (.rxChecksumHigh b t) :=
  fun _ _ => rxWord_match b t

theorem TableMatch.rxDiscard (b : Byte) (t : Millis) : TableMatch.Statement (.rxDiscard b t) :=
  fun _ _ => rxWord_match b t

theorem TableMatch.init (en : Bool) (t : Millis) : TableMatch.Statement (.init en t) :=
  fun _ _ => initWord_match en t

theorem TableMatch.rxByte (b : Byte) (t : Millis) : TableMatch.Statement (.rxByte b t) :=
  fun _ _ => rxWord_match b t

theorem TableMatch.readChannel (i : Byte) : TableMatch.Statement (.readChannel i) :=
  fun _ _ => hostWord_match 2 i

theorem TableMatch.registerSensor (ty : Byte) : TableMatch.Statement (.registerSensor ty) :=
  fun _ _ => hostWord_match 3 ty

theorem TableMatch.setSensorValue (slot : Byte) (value : Half) :
    TableMatch.Statement (.setSensorValue slot value) :=
  fun _ _ => setWord_match slot value

theorem TableMatch.readCounter (k : Byte) : TableMatch.Statement (.readCounter k) :=
  fun _ _ => hostWord_match 5 k

theorem TableMatch.reservedOp110 (x : BitVec 61) : TableMatch.Statement (.reservedOp110 x) :=
  fun _ _ => reservedWord_match 6 x

theorem TableMatch.reservedOp111 (x : BitVec 61) : TableMatch.Statement (.reservedOp111 x) :=
  fun _ _ => reservedWord_match 7 x

end Sys2Proof.Laws
end

