-- ==== Sys2Proof/Tests/Slice0.lean ====
section
/-!
SUPPORT. The model's own tests: the ill-formed terms that each operand check refuses, words written out from the spec's
encodings, one-step vectors of spec/95_test_vectors.md (named there V-D, V-S, V-T, V-H, V-E), and a witness for the
hypotheses of each statement in Certificates/Slice0/Obligations.lean.
-/

namespace Sys2Proof.Tests

open Sys2Proof Sys2Proof.Machine

/-! ## Helpers -/

/-- Whether an outcome is a next state with property `p`. -/
def goesTo (o : Host.Outcome State Fault Refusal) (p : State → Bool) : Bool :=
  match o with
  | .next s => p s
  | .fault _ => false
  | .refused _ => false

/-- Whether an outcome is the refusal `r`. -/
def refusedAs (o : Host.Outcome State Fault Refusal) (r : Refusal) : Bool :=
  match o with
  | .next _ => false
  | .fault _ => false
  | .refused q => q == r

/-- After INIT with telemetry on, the latest byte at 100 ms. -/
def idle : State := { State.reset with lastMs := 100#32 }

/-- `idle` with `n` registered sensors, slot 1 of type 1 and value 0x1234. -/
def withSensors (n : Nat) : State := { idle with sensorCount := n, sens := idle.sens.set 0 ⟨0x01#8, 0x1234#16⟩ }

/-- A poll of slot 1 with command byte `cmd`, received but for the checksum's high byte. -/
def pollReceived (cmd : Byte) : State := placeFrame cmd [] (withSensors 1)

/-- In the middle of a frame: state `d`, `plen`, `ptr`. -/
def midFrame (d : DState) (plen ptr : BitVec 5) : State := { withSensors 1 with dstate := d, plen := plen, ptr := ptr }

/-- A legal configuration with smaller values of R7's parameters. -/
def small : Config :=
  { Config.standard with maxLength := 0x10, payloadMax := 13, channels := 4, clockBits := 8, counterBits := 8 }

/-- A state with one event waiting. -/
def waiting (e : EventWord) (s : State) : State := { s with events := [e] }

/-- The data of V-S3: one whole pair and a single byte. -/
def shortData : List Byte := [0xE8#8, 0x03#8, 0xAA#8]

/-! ## Ill-formed terms are refused by each check of WellFormed -/

theorem test_wf_refuses_long_channels :
    (Instr.setChannels (List.replicate 29 0#8)).wf Config.standard = false := by decide
theorem test_wf_refuses_discover_0 : (Instr.pollDiscover 0#4).wf Config.standard = false := by decide
theorem test_wf_refuses_type_0 : (Instr.pollType 0#4).wf Config.standard = false := by decide
theorem test_wf_refuses_value_0 : (Instr.pollValue 0#4).wf Config.standard = false := by decide
theorem test_wf_refuses_unknown_0 : (Instr.pollUnknown 0xB0#8).wf Config.standard = false := by decide
theorem test_wf_refuses_unknown_known :
    (Instr.pollUnknown 0x81#8).wf Config.standard = false ∧ (Instr.pollUnknown 0x91#8).wf Config.standard = false ∧
      (Instr.pollUnknown 0xA1#8).wf Config.standard = false := by decide
theorem test_wf_refuses_ignored_control : (Instr.ignored 0x40#8 []).wf Config.standard = false := by decide
theorem test_wf_refuses_ignored_long :
    (Instr.ignored 0x00#8 (List.replicate 29 0#8)).wf Config.standard = false := by decide
theorem test_wf_refuses_replies_0 :
    (Instr.replyDiscover 0#4).wf Config.standard = false ∧ (Instr.replyType 0#4 0x01#8).wf Config.standard = false ∧
      (Instr.replyValue 0#4 0x0001#16).wf Config.standard = false := by decide
theorem test_wf_refuses_accept_bounds :
    (Instr.rxLengthAccept 0x03#8 0#32).wf Config.standard = false ∧
      (Instr.rxLengthAccept 0x21#8 0#32).wf Config.standard = false := by decide
theorem test_wf_refuses_reject_bounds :
    (Instr.rxLengthReject 0x04#8 0#32).wf Config.standard = false ∧
      (Instr.rxLengthReject 0x20#8 0#32).wf Config.standard = false := by decide

/-! ## Every constructor, decoded from a word written out from the spec's encoding -/

-- V-S3, V-T1, V-T3, V-T5, V-T8, V-T13 with the slot registered and telemetry enabled
theorem test_decode_set_channels :
    decode Config.standard (.inbound true 1 [0x07#8, 0x40#8, 0xE8#8, 0x03#8, 0xAA#8, 0x23#8, 0xFE#8]) =
      .ok (.setChannels [0xE8#8, 0x03#8, 0xAA#8]) := by decide
theorem test_decode_poll_discover :
    decode Config.standard (.inbound true 1 [0x04#8, 0x81#8, 0x7A#8, 0xFF#8]) = .ok (.pollDiscover 1#4) := by decide
theorem test_decode_poll_type :
    decode Config.standard (.inbound true 2 [0x04#8, 0x92#8, 0x69#8, 0xFF#8]) = .ok (.pollType 2#4) := by decide
theorem test_decode_poll_value :
    decode Config.standard (.inbound true 1 [0x04#8, 0xA1#8, 0x5A#8, 0xFF#8]) = .ok (.pollValue 1#4) := by decide
theorem test_decode_poll_unknown :
    decode Config.standard (.inbound true 1 [0x04#8, 0xB1#8, 0x4A#8, 0xFF#8]) = .ok (.pollUnknown 0xB1#8) := by decide
theorem test_decode_ignored :
    decode Config.standard (.inbound true 1 [0x05#8, 0x81#8, 0x00#8, 0x79#8, 0xFF#8]) =
      .ok (.ignored 0x81#8 [0x00#8]) := by decide
-- V-T10, V-T11, V-T12: the same poll words, not dispatched
theorem test_decode_undispatched :
    decode Config.standard (.inbound false 1 [0x04#8, 0x81#8, 0x7A#8, 0xFF#8]) = .ok (.ignored 0x81#8 []) ∧
    decode Config.standard (.inbound true 1 [0x04#8, 0x82#8, 0x79#8, 0xFF#8]) = .ok (.ignored 0x82#8 []) ∧
    decode Config.standard (.inbound true 1 [0x04#8, 0x80#8, 0x7B#8, 0xFF#8]) = .ok (.ignored 0x80#8 []) := by decide
-- V-D9: a wrong checksum; R103: lengths out of bounds
theorem test_decode_rejects_frames :
    decode Config.standard (.inbound true 1 [0x04#8, 0x81#8, 0x7B#8, 0xFF#8]) = .error .frameChecksum ∧
    decode Config.standard (.inbound true 1 [0x03#8, 0xFC#8, 0xFF#8]) = .error .frameLength := by decide
-- the reply rows: V-T1, V-T4, V-T5
theorem test_decode_reply_discover :
    decode Config.standard (.outbound [0x04#8, 0x81#8, 0x7A#8, 0xFF#8]) = .ok (.replyDiscover 1#4) := by decide
theorem test_decode_reply_type :
    decode Config.standard (.outbound [0x06#8, 0x92#8, 0x01#8, 0x02#8, 0x64#8, 0xFF#8]) =
      .ok (.replyType 2#4 0x01#8) := by decide
theorem test_decode_reply_value :
    decode Config.standard (.outbound [0x06#8, 0xA1#8, 0x34#8, 0x12#8, 0x12#8, 0xFF#8]) =
      .ok (.replyValue 1#4 0x1234#16) := by decide
-- the rows of RX_BYTE: the words of P1 and P2, at the decoder state before each
theorem test_decode_length_accept :
    decode Config.standard (.rxEvent .awaitingLength 0x0000000A00000401#64) =
      .ok (.rxLengthAccept 0x04#8 10#32) := by decide
theorem test_decode_length_reject :
    decode Config.standard (.rxEvent .awaitingLength 0x0000041000002101#64) =
      .ok (.rxLengthReject 0x21#8 1040#32) := by decide
theorem test_decode_payload :
    decode Config.standard (.rxEvent .accumulatingPayload 0x0000000A00008101#64) =
      .ok (.rxPayload 0x81#8 10#32) := by decide
theorem test_decode_checksum_low :
    decode Config.standard (.rxEvent .awaitingChecksumLow 0x0000000A00007A01#64) =
      .ok (.rxChecksumLow 0x7A#8 10#32) := by decide
theorem test_decode_checksum_high :
    decode Config.standard (.rxEvent .awaitingChecksumHigh 0x0000000A0000FF01#64) =
      .ok (.rxChecksumHigh 0xFF#8 10#32) := by decide
theorem test_decode_discard :
    decode Config.standard (.rxEvent .discarding 0x0000041000004001#64) = .ok (.rxDiscard 0x40#8 1040#32) := by decide
-- V-E1 to V-E9
theorem test_decode_init : decode Config.standard (.event 0x000003E800000000#64) = .ok (.init false 1000#32) ∧
    decode Config.standard (.event 0x0000000000000008#64) = .ok (.init true 0#32) := by decide
theorem test_decode_rx_byte :
    decode Config.standard (.event 0x0000000A00008101#64) = .ok (.rxByte 0x81#8 10#32) := by decide
theorem test_decode_read_channel :
    decode Config.standard (.event 0x000000000000FF02#64) = .ok (.readChannel 255#8) := by decide
theorem test_decode_register_sensor :
    decode Config.standard (.event 0x0000000000000203#64) = .ok (.registerSensor 0x02#8) := by decide
theorem test_decode_set_sensor_value :
    decode Config.standard (.event 0x0000000001230104#64) = .ok (.setSensorValue 1#8 0x0123#16) := by decide
theorem test_decode_read_counter :
    decode Config.standard (.event 0x0000000000000305#64) = .ok (.readCounter 3#8) := by decide
theorem test_decode_reserved_110 :
    decode Config.standard (.event 0x0000000000000006#64) = .ok (.reservedOp110 0#61) := by decide
theorem test_decode_reserved_111 :
    decode Config.standard (.event 0x000000000000000F#64) = .ok (.reservedOp111 1#61) := by decide
-- V-E10 to V-E12
theorem test_decode_rejects_reserved_bits :
    decode Config.standard (.event 0x0000000000010002#64) = .error .reservedBit ∧
    decode Config.standard (.event 0x0000000000000010#64) = .error .reservedBit ∧
    decode Config.standard (.event 0x0000000A00018101#64) = .error .reservedBit := by decide

/-! ## The opcode table's words, and their placement -/

theorem test_table_words :
    decodeTableWord 8 0x40 = some (.setChannels []) ∧ decodeTableWord 8 0x81 = some (.pollDiscover 1#4) ∧
    decodeTableWord 8 0xB1 = some (.pollUnknown 0xB1#8) ∧ decodeTableWord 8 0x00 = some (.ignored 0x00#8 []) ∧
    decodeTableWord 32 0xFF7A8104 = some (.replyDiscover 1#4) ∧
    decodeTableWord 48 0xFF6602009106 = some (.replyType 1#4 0x00#8) ∧
    decodeTableWord 64 0x0000000A00008101 = some (.rxByte 0x81#8 10#32) ∧
    decodeTableWord 8 0x06 = some (.reservedOp110 0#61) := by decide
-- a placed poll word is answered by the very next step
theorem test_placed_poll_runs :
    goesTo (step (State.reset.withFetchWord 8 0x81)) (fun u => u.tx == [0x04#8, 0x81#8, 0x7A#8, 0xFF#8]) = true := by
  decide
theorem test_placed_reply_runs :
    goesTo (step (State.reset.withFetchWord 48 0xFF121234A106))
      (fun u => u.tx == [0x06#8, 0xA1#8, 0x34#8, 0x12#8, 0x12#8, 0xFF#8]) = true := by decide

/-! ## One step of each instruction -/

-- V-S3: one whole pair, a single byte that is not stored
theorem test_set_channels_short :
    goesTo (exec (.setChannels shortData) idle)
      (fun u => readCh 0 u == 0x03E8#16 && readCh 1 u == 0#16 && u.cntRec == 1#32) = true := by decide
-- V-S1: the tenth pair is stored, the pairs beyond have no register
theorem test_set_channels_full :
    goesTo (exec (.setChannels ([0xDB#8, 0x05#8] ++ (List.replicate 13 [0xDC#8, 0x05#8]).flatten)) idle)
      (fun u => readCh 0 u == 0x05DB#16 && readCh 9 u == 0x05DC#16 && readCh 10 u == 0#16) = true := by decide
-- V-T1 and V-T10
theorem test_poll_discover :
    goesTo (exec (.pollDiscover 1#4) (withSensors 1)) (fun u =>
      u.tx == [0x04#8, 0x81#8, 0x7A#8, 0xFF#8] && u.cntPoll == 1#32 && u.cntSensor == 0#32 &&
        u.guards == [⟨0, 10⟩]) = true := by decide
theorem test_poll_discover_disabled :
    goesTo (exec (.pollDiscover 1#4) { withSensors 1 with telemetryEnable := false }) (fun u =>
      u.tx == [] && u.cntPoll == 0#32 && u.outcomes == [.frameIgnored 0x81#8]) = true := by decide
-- V-T9's Type reply, and its count under AllAnswered (V-T16)
theorem test_poll_type :
    goesTo (exec (.pollType 1#4) (withSensors 1)) (fun u =>
      u.tx == [0x06#8, 0x91#8, 0x01#8, 0x02#8, 0x65#8, 0xFF#8] && u.cntPoll == 0#32) = true := by decide
theorem test_poll_type_counted :
    goesTo (exec (.pollType 1#4) { withSensors 1 with cfg := { Config.standard with pollCountScope := .allAnswered } })
      (fun u => u.cntPoll == 1#32 && u.cntSensor == 0#32) = true := by decide
-- V-T5
theorem test_poll_value :
    goesTo (exec (.pollValue 1#4) (withSensors 1)) (fun u =>
      u.tx == [0x06#8, 0xA1#8, 0x34#8, 0x12#8, 0x12#8, 0xFF#8] && u.cntPoll == 0#32 && u.cntSensor == 1#32) = true := by
  decide
-- V-T8 and V-T14
theorem test_poll_unknown :
    goesTo (exec (.pollUnknown 0xB1#8) (withSensors 1)) (fun u =>
      u == { withSensors 1 with outcomes := [.unknownSensorSubcommand 0xB1#8] }) = true := by decide
theorem test_poll_unknown_0x41 :
    goesTo (exec (.pollUnknown 0x41#8) (withSensors 1))
      (fun u => u.outcomes == [.unknownSensorSubcommand 0x41#8] && u.tx == []) = true := by decide
-- V-T13
theorem test_ignored :
    goesTo (exec (.ignored 0x81#8 [0x00#8]) (withSensors 1)) (fun u =>
      u == { withSensors 1 with outcomes := [.frameIgnored 0x81#8] }) = true := by decide
-- V-T2, V-T4, V-T6
theorem test_reply_discover :
    goesTo (exec (.replyDiscover 15#4) idle) (fun u => u.tx == [0x04#8, 0x8F#8, 0x6C#8, 0xFF#8]) = true := by decide
theorem test_reply_type :
    goesTo (exec (.replyType 2#4 0x01#8) idle)
      (fun u => u.tx == [0x06#8, 0x92#8, 0x01#8, 0x02#8, 0x64#8, 0xFF#8]) = true := by decide
theorem test_reply_value :
    goesTo (exec (.replyValue 1#4 0xFFFF#16) idle)
      (fun u => u.tx == [0x06#8, 0xA1#8, 0xFF#8, 0xFF#8, 0x5A#8, 0xFD#8]) = true := by decide
-- V-D2 and V-D3
theorem test_length_accept :
    goesTo (exec (.rxLengthAccept 0x04#8 200#32) idle)
      (fun u => u.dstate == .accumulatingPayload && u.plen == 1#5 && u.ptr == 0#5 && u.acc == 0xFFFB#16) = true := by
  decide
theorem test_length_accept_max :
    goesTo (exec (.rxLengthAccept 0x20#8 200#32) idle)
      (fun u => u.dstate == .accumulatingPayload && u.plen == 29#5 && u.acc == 0xFFDF#16) = true := by decide
-- V-D1 and V-D4
theorem test_length_reject :
    goesTo (exec (.rxLengthReject 0x03#8 200#32) idle) (fun u => u.dstate == .discarding && u.cntLenerr == 1#32) =
      true := by
  decide
theorem test_length_reject_above :
    goesTo (exec (.rxLengthReject 0x21#8 200#32) idle) (fun u => u.outcomes == [.invalidLength 0x21#8]) =
      true := by decide
-- the trace of the W2 poll, byte by byte
theorem test_payload :
    goesTo (exec (.rxPayload 0x81#8 100#32) { midFrame .accumulatingPayload 1#5 0#5 with acc := 0xFFFB#16 })
      (fun u => u.dstate == .awaitingChecksumLow && u.ptr == 1#5 && u.acc == 0xFF7A#16 && readBuf 0 u == 0x81#8) =
        true := by
  decide
theorem test_checksum_low :
    goesTo (exec (.rxChecksumLow 0x7A#8 100#32) (midFrame .awaitingChecksumLow 1#5 1#5))
      (fun u => u.dstate == .awaitingChecksumHigh && u.rxLo == 0x7A#8) = true := by decide
theorem test_checksum_high :
    goesTo (exec (.rxChecksumHigh 0xFF#8 100#32) (pollReceived 0x81#8))
      (fun u => u.dstate == .discarding && u.tx == [0x04#8, 0x81#8, 0x7A#8, 0xFF#8]) = true := by decide
-- V-D10
theorem test_checksum_high_mismatch :
    goesTo (exec (.rxChecksumHigh 0xFE#8 100#32) (pollReceived 0x81#8)) (fun u =>
      u.dstate == .discarding && u.tx == [] && u.outcomes == [.checksumMismatch 0xFE7A#16 0xFF7A#16] &&
        u.cntLenerr == 0#32) = true := by decide
-- V-D7, V-D11
theorem test_discard :
    goesTo (exec (.rxDiscard 0x04#8 102#32) idle) (fun u => u == { idle with lastMs := 102#32 }) = true := by decide
-- V-D15 and V-D13: an abandoned frame, and the clock's wrap
theorem test_rx_byte_gap :
    goesTo (exec (.rxByte 0xFF#8 103#32) (pollReceived 0x81#8)) (fun u =>
      u.outcomes == [.frameAbandoned .awaitingChecksumHigh, .invalidLength 0xFF#8] && u.cntLenerr == 1#32 &&
        u.tx == []) = true := by decide
theorem test_rx_byte_wrap :
    goesTo (exec (.rxByte 0x04#8 1#32) { idle with lastMs := 0xFFFFFFFF#32 }) (fun u => u.dstate == .discarding) =
      true ∧
    goesTo (exec (.rxByte 0x04#8 1#32) { idle with lastMs := 0xFFFFFFFE#32 })
      (fun u => u.dstate == .accumulatingPayload) = true := by decide
-- V-H8 and V-D20
theorem test_init :
    goesTo (exec (.init true 5#32) { withSensors 2 with cntRec := 3#32, ch := idle.ch.set 0 0x05DB#16 }) (fun u =>
      u.cntRec == 0#32 && u.sensorCount == 0 && u.ch == Vector.replicate 10 0#16 && u.lastMs == 5#32) =
        true := by decide
theorem test_init_mid_frame :
    goesTo (exec (.init false 500#32) (midFrame .accumulatingPayload 9#5 3#5))
      (fun u => u.dstate == .discarding && u.lastMs == 500#32 && !u.telemetryEnable) = true := by decide
-- the host reads after V-S1
theorem test_read_channel :
    goesTo (exec (.readChannel 9#8) { idle with ch := idle.ch.set 9 0x05DC#16 })
      (fun u => u.results == [.channel 0x05DC#16]) = true := by decide
theorem test_read_channel_out :
    goesTo (exec (.readChannel 10#8) { idle with ch := Vector.replicate 10 1#16 })
      (fun u => u.results == [.channel 0#16]) = true := by decide
-- V-H1: the first call and the eleventh
theorem test_register_sensor :
    goesTo (exec (.registerSensor 0x05#8) (withSensors 1)) (fun u =>
      u.sensorCount == 2 && u.results == [.slot 2] && readSensor 2 u == ⟨0x05#8, 0#16⟩) = true := by decide
theorem test_register_sensor_full :
    goesTo (exec (.registerSensor 0x00#8) (withSensors 10)) (fun u =>
      u == { withSensors 10 with results := [.slot 10], outcomes := [.sensorOverflow 0x00#8] }) = true := by decide
-- V-H4, V-H3
theorem test_set_sensor_value :
    goesTo (exec (.setSensorValue 1#8 0x0006#16) (withSensors 1))
      (fun u => readSensor 1 u == ⟨0x01#8, 0x0006#16⟩) = true := by decide
theorem test_set_sensor_value_out :
    goesTo (exec (.setSensorValue 2#8 0x0001#16) (withSensors 1)) (fun u =>
      u == { withSensors 1 with outcomes := [.sensorSlotOutOfRange 2#8] }) = true := by decide
-- P2's counter reads; V-H6
theorem test_read_counter :
    goesTo (exec (.readCounter 1#8) { idle with cntLenerr := 1#32 }) (fun u => u.results == [.counter 1#32]) =
      true := by
  decide
theorem test_read_counter_refused : refusedAs (exec (.readCounter 4#8) idle) (.counterNumber 4#8) = true := by decide
-- V-E8, V-E9
theorem test_reserved_op_110 : refusedAs (exec (.reservedOp110 0#61) idle) .reservedOperation = true := by decide
theorem test_reserved_op_111 : refusedAs (exec (.reservedOp111 0#61) idle) .reservedOperation = true := by decide
-- V-H7: before any INIT
theorem test_before_init :
    refusedAs (step (waiting 0x0000000A00000401#64 { idle with initDone := false })) .beforeInit = true := by decide
-- R7: the rules read the parameters: a channel from `P_CHANNELS` on, a length byte at another bound, a counter and a
-- clock of 8 bits that wrap
theorem test_parameters_are_read :
    goesTo (exec (.readChannel 4#8) { idle with cfg := small, ch := Vector.replicate 10 1#16 })
      (fun u => u.results == [.channel 0#16]) = true ∧
    goesTo (exec (.rxByte 0x11#8 200#32) { idle with cfg := small, cntLenerr := 255#32 })
      (fun u => u.dstate == .discarding && u.cntLenerr == 0#32) = true ∧
    goesTo (exec (.rxByte 0x04#8 257#32) { idle with cfg := small, lastMs := 255#32 })
      (fun u => u.dstate == .discarding) = true ∧
    goesTo (step { idle with cfg := small }) (fun u => u.cfg == small) = true := by decide
-- R238: idle between events
theorem test_step_idle : goesTo (step idle) (fun u => u == idle) = true := by decide

/-! ## Witnesses: the hypotheses of each statement, met together, a boundary value for each clause -/

theorem witness_DecodeInvertsEncode : Config.standard.legal = true ∧
    (Instr.setChannels (List.replicate 28 0xFF#8)).wf Config.standard = true ∧
      (Instr.pollValue 15#4).wf Config.standard = true ∧
      (Instr.pollUnknown 0x41#8).wf Config.standard = true ∧
        (Instr.ignored 0xFF#8 (List.replicate 28 0xFF#8)).wf Config.standard = true ∧
      (Instr.replyType 1#4 0xFF#8).wf Config.standard = true ∧
        (Instr.rxLengthAccept 0x20#8 0#32).wf Config.standard = true ∧
      (Instr.rxLengthReject 0x21#8 0#32).wf Config.standard = true ∧
        (Instr.reservedOp111 1#61).wf Config.standard = true := by decide

theorem witness_EventWordHasOneMeaning :
    decodeEvent 0xFFFFFFFF00000008#64 = .ok (.init true 0xFFFFFFFF#32) := by decide

theorem witness_FrameBytesHaveOneMeaning :
    decodeFrame Config.standard [0x04#8, 0x40#8, 0xBB#8, 0xFF#8] = .ok (0x40#8, []) := by decide

theorem witness_ReservedEventsAreRefused :
    (waiting 0x0000000000000006#64 idle).events = [0x0000000000000006#64] ∧
      BitVec.extractLsb' 0 3 0x0000000000000006#64 = 6#3 ∧ BitVec.extractLsb' 0 3 0x000000000000000F#64 = 7#3 ∧
      0x0000000000000010#64 &&& reservedBits (BitVec.extractLsb' 0 3 0x0000000000000010#64) ≠ 0#64 ∧
      0x8000000000000005#64 &&& reservedBits (BitVec.extractLsb' 0 3 0x8000000000000005#64) ≠ 0#64 := by decide

theorem witness_WellSpelledEventsDecode :
    (BitVec.extractLsb' 0 3 0x000000000000FF05#64).toNat = 5 ∧
      0x000000000000FF05#64 &&& reservedBits (BitVec.extractLsb' 0 3 0x000000000000FF05#64) = 0#64 ∧
      0xFFFFFFFF00000008#64 &&& reservedBits (BitVec.extractLsb' 0 3 0xFFFFFFFF00000008#64) = 0#64 := by decide

theorem witness_ChecksumIsTheComplementedSum :
    (0x20#8).toNat ≤ 0x20 ∧ (List.replicate 29 (0xFF#8)).length + 3 = (0x20#8).toNat ∧
      (0x20#8).toNat + ((List.replicate 29 (0xFF#8)).map BitVec.toNat).sum = 7427 := by decide

theorem witness_EncodedReplyPassesTheValidator :
    Config.standard.legal = true ∧ (List.replicate 28 (0xFF#8)).length + 1 ≤ Config.standard.payloadMax := by decide

-- a poll of slots 1 and 15, each sub-command, and the two ways out of the poll condition
theorem witness_InboundOperationMap :
    (0x40#8).toNat = 0x40 ∧ (0x8F#8).toNat % 16 = 15 ∧ (0x8F#8).toNat / 16 * 16 = 0x80 ∧
      (0x91#8).toNat % 16 = 1 ∧ (0x91#8).toNat / 16 * 16 = 0x90 ∧ (0xA1#8).toNat / 16 * 16 = 0xA0 ∧
      (0x41#8).toNat % 16 = 1 ∧ (0x41#8).toNat / 16 * 16 = 0x40 ∧
      (0x80#8).toNat ≠ 0x40 ∧ ¬ 1 ≤ (0x80#8).toNat % 16 := by decide

theorem witness_StepRunsTheDecodedEvent :
    (waiting 0x0000000000000203#64 idle).cfg.legal = true ∧
      (waiting 0x0000000000000203#64 idle).events = [0x0000000000000203#64] ∧
      decodeEvent 0x0000000000000203#64 = .ok (.registerSensor 0x02#8) := by decide

-- the least value that breaks each constraint of R8
theorem witness_IllegalConfigurationIsRefused :
    15 < { Config.standard with sensorCapacity := 16 }.sensorCapacity ∧
      0xFF < { Config.standard with maxLength := 0x100 }.maxLength ∧
      { Config.standard with maxLength := 3 }.maxLength ≤ { Config.standard with maxLength := 3 }.overhead ∧
      { Config.standard with channels := 15 }.payloadMax <
        2 * { Config.standard with channels := 15 }.channels + 1 := by decide

-- an RX_BYTE before INIT, and the INIT
theorem witness_EventsBeforeInitAreRefused :
    { idle with initDone := false, events := [0x0000000A00000401#64] }.initDone = false ∧
      decodeEvent 0x0000000A00000401#64 = .ok (.rxByte 0x04#8 10#32) ∧
      { idle with initDone := false }.cfg.legal = true ∧
      decodeEvent 0x0000000000000008#64 = .ok (.init true 0#32) := by decide

theorem witness_WellEncodedEventsRunAfterInit :
    (waiting 0x0000000000000305#64 idle).cfg.legal = true ∧ (waiting 0x0000000000000305#64 idle).initDone = true ∧
      (waiting 0x0000000000000305#64 idle).events = [0x0000000000000305#64] ∧
      decodeEvent 0x0000000000000305#64 = .ok (.readCounter 3#8) ∧ mayRun (.readCounter 3#8) = true := by decide

theorem witness_RefusalsAreTheListedOnes :
    refusedAs (step (waiting 0x0000000000000405#64 idle)) (.counterNumber 4#8) = true ∧
      refusedAs (step (waiting 0x0000000000000006#64 idle)) .reservedOperation = true ∧
      refusedAs (step (waiting 0x0000000000010002#64 idle)) (.undecodable .reservedBit) = true ∧
      refusedAs (step { idle with cfg := { Config.standard with sensorCapacity := 16 } }) .illegalConfiguration =
        true := by decide

-- the gap of 2 and of 3 ms (V-D7, V-D8), across the wrap too (V-D13, V-D14)
theorem witness_GapRuleResynchronises :
    ((102#32).toNat + 2 ^ 32 - idle.lastMs.toNat) % 2 ^ 32 % 2 ^ idle.cfg.clockBits = idle.cfg.gapMs ∧
      idle.cfg.gapMs < ((103#32).toNat + 2 ^ 32 - idle.lastMs.toNat) % 2 ^ 32 % 2 ^ idle.cfg.clockBits ∧
      ((1#32).toNat + 2 ^ 32 - (0xFFFFFFFF#32).toNat) % 2 ^ 32 = 2 ∧
      ((1#32).toNat + 2 ^ 32 - (0xFFFFFFFE#32).toNat) % 2 ^ 32 = 3 := by decide

theorem witness_LengthByteIsAccepted :
    idle.initDone = true ∧ (gapRule 103#32 idle).dstate = .awaitingLength ∧
      idle.cfg.overhead < (0x04#8).toNat ∧ (0x20#8).toNat ≤ idle.cfg.maxLength := by decide

theorem witness_LengthByteIsRejected :
    idle.initDone = true ∧ (gapRule 103#32 idle).dstate = .awaitingLength ∧
      (0x03#8).toNat ≤ idle.cfg.overhead ∧ idle.cfg.maxLength < (0x21#8).toNat := by decide

-- the first of one payload byte, and the last of 29
theorem witness_PayloadByteIsStored :
    (midFrame .accumulatingPayload 1#5 0#5).initDone = true ∧
      (midFrame .accumulatingPayload 1#5 0#5).dstate = .accumulatingPayload ∧
      (102#32 - (midFrame .accumulatingPayload 1#5 0#5).lastMs).toNat % 2 ^ idle.cfg.clockBits ≤ idle.cfg.gapMs ∧
      (0#5).toNat < (1#5).toNat ∧ (28#5).toNat < (29#5).toNat ∧ (29#5).toNat ≤ 29 := by decide

theorem witness_ChecksumLowByteIsStored :
    (midFrame .awaitingChecksumLow 1#5 1#5).initDone = true ∧
      (midFrame .awaitingChecksumLow 1#5 1#5).dstate = .awaitingChecksumLow ∧
      (102#32 - idle.lastMs).toNat % 2 ^ idle.cfg.clockBits ≤ idle.cfg.gapMs := by decide

-- a matching and a mismatching high byte
theorem witness_ChecksumHighByteValidates :
    (pollReceived 0x81#8).initDone = true ∧ (pollReceived 0x81#8).dstate = .awaitingChecksumHigh ∧
      (102#32 - (pollReceived 0x81#8).lastMs).toNat % 2 ^ idle.cfg.clockBits ≤ (pollReceived 0x81#8).cfg.gapMs ∧
      u16 (pollReceived 0x81#8).rxLo 0xFF#8 = (pollReceived 0x81#8).acc ∧
      u16 (pollReceived 0x81#8).rxLo 0xFE#8 ≠ (pollReceived 0x81#8).acc := by decide

theorem witness_DiscardedByteSetsTheTimeOnly :
    idle.initDone = true ∧ idle.dstate = .discarding ∧
      (102#32 - idle.lastMs).toNat % 2 ^ idle.cfg.clockBits ≤ idle.cfg.gapMs := by decide

-- a state of each row of the table: a fresh length byte, a payload byte that is not and one that is the last, the
-- checksum's bytes, a byte in Discarding
theorem witness_DecoderFollowsTheTransitionTable :
    idle.initDone = true ∧ idle.cfg.gapMs < (103#32 - idle.lastMs).toNat % 2 ^ idle.cfg.clockBits ∧
      ¬ idle.cfg.gapMs < (102#32 - idle.lastMs).toNat % 2 ^ idle.cfg.clockBits ∧ idle.dstate = .discarding ∧
      (midFrame .accumulatingPayload 2#5 0#5).dstate = .accumulatingPayload ∧
      (midFrame .accumulatingPayload 2#5 0#5).ptr.toNat + 1 < (midFrame .accumulatingPayload 2#5 0#5).plen.toNat ∧
      (midFrame .accumulatingPayload 29#5 28#5).ptr.toNat + 1 = (midFrame .accumulatingPayload 29#5 28#5).plen.toNat ∧
      (midFrame .awaitingChecksumLow 1#5 1#5).dstate = .awaitingChecksumLow ∧
      (pollReceived 0x81#8).dstate = .awaitingChecksumHigh := by decide

-- an answered poll changes the transmit stream
theorem witness_OnlyValidatedFramesReachTheOutputs :
    ∃ u, exec (.rxByte 0xFF#8 100#32) (pollReceived 0x81#8) = .next u ∧ u.tx ≠ (pollReceived 0x81#8).tx :=
  ⟨_, rfl, by decide⟩

theorem witness_ReceivedBytesKeepTheHostSide :
    ∃ u, exec (.rxByte 0xFF#8 100#32) (pollReceived 0x81#8) = .next u := ⟨_, rfl⟩

-- the pair of channel 9 just present, and missing its high byte, and a channel from `P_CHANNELS` on
theorem witness_SetChannelsStoresThePresentPairs :
    9 < idle.cfg.channels ∧ 9 < 10 ∧ { idle with cfg := { Config.standard with channels := 9 } }.cfg.channels ≤ 9 ∧
    2 * 9 + 3 ≤ (List.replicate 20 (0x05#8)).length + 1 ∧
      (List.replicate 19 (0x05#8)).length + 1 < 2 * 9 + 3 := by decide

theorem witness_ChannelValuesAreStoredAsReceived :
    0 < idle.cfg.channels ∧ 9 < idle.cfg.channels ∧
    shortData[2 * 0]? = some (lo8 0x03E8#16) ∧ shortData[2 * 0 + 1]? = some (hi8 0x03E8#16) ∧
      (List.replicate 20 (0xFF#8))[2 * 9]? = some (lo8 0xFFFF#16) ∧
      (List.replicate 20 (0xFF#8))[2 * 9 + 1]? = some (hi8 0xFFFF#16) := by decide

/-- A poll of `a` is dispatched in `s`: the hypotheses of the poll statements. -/
def dispatchable (a : Nibble) (s : State) : Prop :=
  s.telemetryEnable = true ∧ 1 ≤ a.toNat ∧ a.toNat ≤ s.sensorCount

theorem witness_DiscoverPollIsAnswered :
    dispatchable 1#4 (withSensors 1) ∧ dispatchable 15#4 (withSensors 15) := by simp only [dispatchable]; decide
theorem witness_TypePollIsAnswered :
    dispatchable 1#4 (withSensors 1) ∧ dispatchable 15#4 (withSensors 15) := by simp only [dispatchable]; decide
theorem witness_ValuePollIsAnswered :
    dispatchable 1#4 (withSensors 1) ∧ dispatchable 15#4 (withSensors 15) := by simp only [dispatchable]; decide

theorem witness_UnknownPollHasNoEffect :
    (withSensors 1).telemetryEnable = true ∧ 1 ≤ (0x41#8).toNat % 16 ∧
      (0x41#8).toNat % 16 ≤ (withSensors 1).sensorCount := by decide

-- telemetry disabled, slot 0, and the first slot that is not registered
theorem witness_UndispatchedPollIsIgnored :
    { withSensors 1 with telemetryEnable := false }.telemetryEnable = false ∧
      (withSensors 1).sensorCount < (2#4).toNat ∧ BitVec.extractLsb' 0 4 0xB2#8 = 2#4 ∧
      BitVec.extractLsb' 0 4 0xB0#8 = 0#4 := by decide

theorem witness_PollCounterFollowsItsScope :
    dispatchable 1#4 (withSensors 1) ∧
      (∃ u, exec (.pollDiscover 1#4) (withSensors 1) = .next u) ∧
        (∃ u, exec (.pollType 1#4) (withSensors 1) = .next u) ∧
      (∃ u, exec (.pollValue 1#4) (withSensors 1) = .next u) ∧
      (∃ u, exec (.pollUnknown 0xB1#8) (withSensors 1) = .next u) ∧
      (∃ u, exec (.ignored 0x00#8 []) (withSensors 1) = .next u) :=
  ⟨by simp only [dispatchable]; decide, ⟨_, rfl⟩, ⟨_, rfl⟩, ⟨_, rfl⟩, ⟨_, rfl⟩, ⟨_, rfl⟩⟩

theorem witness_RepliesRoundTrip :
    (withSensors 1).cfg.legal = true ∧ dispatchable 1#4 (withSensors 1) ∧ dispatchable 15#4 (withSensors 15) := by
  simp only [dispatchable]; decide

theorem witness_EchoesOfReplies : Config.standard.legal = true ∧ (true = true) ∧ 1 ≤ (15#4).toNat ∧
  (15#4).toNat ≤ 15 := by decide

-- a step that transmits nothing, and one that sends a whole reply
theorem witness_OneReplyAtMostAStep :
    (∃ u, step idle = .next u ∧ u.tx = idle.tx) ∧
      (∃ u, step (State.reset.withFetchWord 8 0x81) = .next u ∧ u.tx = [0x04#8, 0x81#8, 0x7A#8, 0xFF#8]) :=
  ⟨⟨_, rfl, by decide⟩, ⟨_, rfl, by decide⟩⟩

-- the first byte 2 ms and 3 ms after the INIT at 98 ms, with lengths at the bounds
theorem witness_FirstByteAfterInitNeedsAGap :
    (∃ u, exec (.init true 98#32) idle = .next u) ∧ (100#32 - 98#32).toNat % 2 ^ idle.cfg.clockBits ≤ idle.cfg.gapMs ∧
      idle.cfg.gapMs < (101#32 - 98#32).toNat % 2 ^ idle.cfg.clockBits ∧ idle.cfg.overhead < (0x04#8).toNat ∧
        (0x20#8).toNat ≤ idle.cfg.maxLength ∧ (0x03#8).toNat ≤ idle.cfg.overhead ∧
      idle.cfg.maxLength < (0x21#8).toNat :=
  ⟨⟨_, rfl⟩, by decide, by decide, by decide, by decide, by decide, by decide⟩

theorem witness_ReadChannelReturnsTheChannel :
    idle.initDone = true ∧ (9#8).toNat < idle.cfg.channels ∧ ¬ (10#8).toNat < idle.cfg.channels := by decide

-- the last free slot, and the full registry
theorem witness_RegisterSensorAppends :
    (withSensors 9).initDone = true ∧ (withSensors 9).cfg.legal = true ∧
      (withSensors 9).sensorCount < (withSensors 9).cfg.sensorCapacity ∧
      (withSensors 10).initDone = true ∧ (withSensors 10).cfg.legal = true ∧
      (withSensors 10).cfg.sensorCapacity ≤ (withSensors 10).sensorCount := by decide

-- slots 1 and 15 of 15, slot 0, slot 2 of 1
theorem witness_SetSensorValueWritesRegisteredSlots :
    (withSensors 15).initDone = true ∧ (withSensors 15).sensorCount ≤ 15 ∧ 1 ≤ (1#8).toNat ∧
      (15#8).toNat ≤ (withSensors 15).sensorCount ∧ (0#8).toNat = 0 ∧
      (withSensors 1).sensorCount < (2#8).toNat := by decide

theorem witness_ReadCounterReturnsTheCounter :
    idle.initDone = true ∧ ((0#8 = 0#8 ∧ 0#32 = idle.cntRec) ∧ (3#8 = 3#8 ∧ 0#32 = idle.cntSensor)) ∧
      4 ≤ (4#8).toNat := by decide

theorem witness_HostOperationsKeepTheFrame :
    (∃ u, exec (.readChannel 0#8) (withSensors 1) = .next u) ∧
      (∃ u, exec (.registerSensor 0x01#8) (withSensors 1) = .next u) ∧
      (∃ u, exec (.setSensorValue 1#8 0x0001#16) (withSensors 1) = .next u) ∧
      (∃ u, exec (.readCounter 0#8) (withSensors 1) = .next u) :=
  ⟨⟨_, rfl⟩, ⟨_, rfl⟩, ⟨_, rfl⟩, ⟨_, rfl⟩⟩

theorem witness_RegisteredSensorsStay :
    (∀ en t, Instr.setSensorValue 1#8 0x0001#16 ≠ .init en t) ∧
      (∃ u, exec (.setSensorValue 1#8 0x0001#16) (withSensors 1) = .next u) ∧ 1 ≤ (withSensors 1).sensorCount :=
  ⟨fun _ _ => Instr.noConfusion, ⟨_, rfl⟩, by decide⟩

theorem witness_StepKeepsTheParameters : ∃ u, step (waiting 0x000003E800000000#64 idle) = .next u := ⟨_, rfl⟩

/-- A poll frame in progress: the length byte 0x04 and the payload byte 0x81 have been received. -/
def pollInProgress : State :=
  waiting 0x0000006400007A01#64
    { midFrame .awaitingChecksumLow 1#5 1#5 with acc := 0xFF7A#16, buf := idle.buf.set 0 0x81#8 }

theorem pollInProgress_inv : Inv pollInProgress := by
  refine ⟨⟨by decide, by decide⟩, ?_⟩
  simp only [assemblyOk, pollInProgress, waiting, midFrame, accInStep]
  decide

theorem witness_StepKeepsTheAssemblyInvariant : Inv pollInProgress ∧ ∃ u, step pollInProgress = .next u :=
  ⟨pollInProgress_inv, ⟨_, rfl⟩⟩

/-- `pollInProgress` with other content where R37 says that nothing is observed. -/
def pollInProgress' : State :=
  { pollInProgress with
    rxLo := 0xEE#8
    buf := pollInProgress.buf.set 5 0xEE#8
    sens := pollInProgress.sens.set 7 ⟨9#8, 9#16⟩ }

theorem witness_UnspecifiedContentIsUnobservable :
    Inv pollInProgress ∧ Agree pollInProgress pollInProgress' ∧ pollInProgress ≠ pollInProgress' := by
  refine ⟨pollInProgress_inv, ⟨by decide, ?_, ?_⟩, by decide⟩
  · simp only [sameFrame, pollInProgress', pollInProgress, waiting, midFrame]
    decide
  · intro slot h₁ h₂
    have h : slot = 1 := by
      have : slot ≤ 1 := h₂
      omega
    subst h
    decide

theorem witness_InitForgetsTheEarlierContent :
    (withSensors 1).cfg = idle.cfg ∧ (withSensors 1).events = idle.events ∧ (withSensors 1).tx = idle.tx ∧
      (withSensors 1).results = idle.results ∧ (withSensors 1).outcomes = idle.outcomes ∧
      (withSensors 1).guards = idle.guards ∧ (withSensors 1).freeDraws = idle.freeDraws ∧
      (∃ u, exec (.init true 5#32) (withSensors 1) = .next u) ∧ (∃ u, exec (.init true 5#32) idle = .next u) :=
  ⟨by decide, by decide, by decide, by decide, by decide, by decide, by decide, ⟨_, rfl⟩, ⟨_, rfl⟩⟩

-- the longest frame, with its checksum right and wrong, spaced by the longest time that is no gap
theorem witness_WholeFrameIsDispatchedOrDropped :
    idle.cfg.legal = true ∧ idle.initDone = true ∧ idle.events = [] ∧
      (List.replicate 28 (0xFF#8)).length + 1 ≤ idle.cfg.payloadMax ∧
      idle.cfg.gapMs < (103#32 - idle.lastMs).toNat % 2 ^ idle.cfg.clockBits ∧
        (2#32).toNat % 2 ^ idle.cfg.clockBits ≤ idle.cfg.gapMs ∧
      u16 0xBB#8 0xE3#8 =
        checksum (frameLength idle.cfg (List.replicate 28 0xFF#8) :: 0x40#8 :: List.replicate 28 0xFF#8) ∧
      u16 0xBB#8 0xE4#8 ≠ checksum (frameLength idle.cfg (List.replicate 28 0xFF#8) :: 0x40#8 ::
        List.replicate 28 0xFF#8) := by
  decide

-- a whole frame's 3 bytes after the length byte 4, and one byte fewer
theorem witness_DecoderRecoversWithinAFrame :
    idle.cfg.legal = true ∧ idle.initDone = true ∧ idle.events = [] ∧
      (gapRule 103#32 idle).dstate = .awaitingLength ∧ idle.cfg.overhead < (0x04#8).toNat ∧
        (0x20#8).toNat ≤ idle.cfg.maxLength ∧
      [0x81#8, 0x7A#8, 0xFF#8].length = (0x04#8).toNat - idle.cfg.overhead + 2 ∧
      [0x81#8, 0x7A#8].length < (0x04#8).toNat - idle.cfg.overhead + 2 ∧ idle.cfg.overhead = 3 ∧
      (2#32).toNat % 2 ^ idle.cfg.clockBits ≤ idle.cfg.gapMs := by decide

theorem witness_BadFrameIsCountedOnce :
    idle.cfg.legal = true ∧ idle.initDone = true ∧ idle.events = [] ∧
      (gapRule 103#32 idle).dstate = .awaitingLength ∧ (0x03#8).toNat ≤ idle.cfg.overhead ∧
        idle.cfg.maxLength < (0x21#8).toNat ∧
      (2#32).toNat % 2 ^ idle.cfg.clockBits ≤ idle.cfg.gapMs := by decide

end Sys2Proof.Tests
end

section
/-!
SUPPORT. Byte order and event words: the bytes of a 16-bit value, the fields of each kind of word, and the event that each
word of the encoder decodes to (spec/00_scope.md R9; spec/30_encoding.md R90).
-/

namespace Sys2Proof

/-! ### Byte order (R9, R53, R54) -/

/-- A 16-bit value is its high byte above its low byte. -/
theorem u16_eq_append (lo hi : Byte) : u16 lo hi = hi ++ lo := by
  ext i hi
  grind [u16]

theorem u16_toNat (lo hi : Byte) : (u16 lo hi).toNat = hi.toNat * 256 + lo.toNat := by
  rw [u16_eq_append, BitVec.toNat_append, ← Nat.shiftLeft_add_eq_or_of_lt lo.isLt, Nat.shiftLeft_eq]

@[simp] theorem lo8_u16 (lo hi : Byte) : lo8 (u16 lo hi) = lo := by
  rw [u16_eq_append]
  exact BitVec.extractLsb'_append_eq_right

@[simp] theorem hi8_u16 (lo hi : Byte) : hi8 (u16 lo hi) = hi := by
  rw [u16_eq_append]
  exact BitVec.extractLsb'_append_eq_left

@[simp] theorem u16_lo8_hi8 (v : Half) : u16 (lo8 v) (hi8 v) = v := by
  rw [u16_eq_append]
  exact (BitVec.extractLsb'_append_extractLsb'_eq_extractLsb' rfl).trans BitVec.extractLsb'_eq_self

/-! ### The fields of the encoder's words (R90)

Bit by bit, each field of a word is the operand that the encoder shifted there, or 0. -/

theorem initWord_fields (en : Bool) (t : Millis) :
    (initWord en t).extractLsb' 0 3 = 0#3 ∧ (initWord en t).getLsbD 3 = en ∧
      (initWord en t).extractLsb' 4 28 = 0#28 ∧ (initWord en t).extractLsb' 32 32 = t := by
  refine ⟨?_, by simp [initWord], ?_, ?_⟩ <;> ext i hi <;> grind [initWord]

theorem rxWord_fields (b : Byte) (t : Millis) :
    (rxWord b t).extractLsb' 0 3 = 1#3 ∧ (rxWord b t).extractLsb' 3 5 = 0#5 ∧ (rxWord b t).extractLsb' 8 8 = b ∧
      (rxWord b t).extractLsb' 16 16 = 0#16 ∧ (rxWord b t).extractLsb' 32 32 = t := by
  refine ⟨?_, ?_, ?_, ?_, ?_⟩ <;> ext i hi <;> grind [rxWord]

theorem hostWord_fields (op : BitVec 3) (b : Byte) (h : Half) :
    (hostWord op b h).extractLsb' 0 3 = op ∧ (hostWord op b h).extractLsb' 3 5 = 0#5 ∧
      (hostWord op b h).extractLsb' 8 8 = b ∧ (hostWord op b h).extractLsb' 16 16 = h ∧
      (hostWord op b h).extractLsb' 32 32 = 0#32 := by
  refine ⟨?_, ?_, ?_, ?_, ?_⟩ <;> ext i hi <;> grind [hostWord]

theorem reservedWord_fields (op : BitVec 3) (x : BitVec 61) :
    (reservedWord op x).extractLsb' 0 3 = op ∧ (reservedWord op x).extractLsb' 3 61 = x := by
  refine ⟨?_, ?_⟩ <;> ext i hi <;> grind [reservedWord]

/-! ### The event of each word (R90, R91) -/

@[simp] theorem decodeEvent_initWord (en : Bool) (t : Millis) :
    decodeEvent (initWord en t) = .ok (.init en t) := by
  obtain ⟨hop, hen, hres, ht⟩ := initWord_fields en t
  simp only [decodeEvent, hop, hen, hres, ht, if_true]

@[simp] theorem decodeEvent_rxWord (b : Byte) (t : Millis) : decodeEvent (rxWord b t) = .ok (.rxByte b t) := by
  obtain ⟨hop, hlow, hb, hh, ht⟩ := rxWord_fields b t
  simp [decodeEvent, hop, hlow, hb, hh, ht]

@[simp] theorem decodeEvent_readChannel (n : Byte) : decodeEvent (hostWord 2#3 n 0#16) = .ok (.readChannel n) := by
  obtain ⟨hop, hlow, hb, hh, ht⟩ := hostWord_fields 2#3 n 0#16
  simp [decodeEvent, hop, hlow, hb, hh, ht]

@[simp] theorem decodeEvent_registerSensor (ty : Byte) :
    decodeEvent (hostWord 3#3 ty 0#16) = .ok (.registerSensor ty) := by
  obtain ⟨hop, hlow, hb, hh, ht⟩ := hostWord_fields 3#3 ty 0#16
  simp [decodeEvent, hop, hlow, hb, hh, ht]

@[simp] theorem decodeEvent_setSensorValue (slot : Byte) (v : Half) :
    decodeEvent (hostWord 4#3 slot v) = .ok (.setSensorValue slot v) := by
  obtain ⟨hop, hlow, hb, hh, ht⟩ := hostWord_fields 4#3 slot v
  simp [decodeEvent, hop, hlow, hb, hh, ht]

@[simp] theorem decodeEvent_readCounter (k : Byte) : decodeEvent (hostWord 5#3 k 0#16) = .ok (.readCounter k) := by
  obtain ⟨hop, hlow, hb, hh, ht⟩ := hostWord_fields 5#3 k 0#16
  simp [decodeEvent, hop, hlow, hb, hh, ht]

@[simp] theorem decodeEvent_reservedOp110 (x : BitVec 61) :
    decodeEvent (reservedWord 6#3 x) = .ok (.reservedOp110 x) := by
  obtain ⟨hop, hx⟩ := reservedWord_fields 6#3 x
  simp [decodeEvent, hop, hx]

@[simp] theorem decodeEvent_reservedOp111 (x : BitVec 61) :
    decodeEvent (reservedWord 7#3 x) = .ok (.reservedOp111 x) := by
  obtain ⟨hop, hx⟩ := reservedWord_fields 7#3 x
  simp [decodeEvent, hop, hx]

end Sys2Proof
end

section
/-!
SUPPORT. Frames and the selection of their rows: the validator accepts what the encoder writes, and the command byte of
each frame row selects that row (spec/30_encoding.md R70 to R81; spec/40_frame_decoder.md R101, R111).
-/

namespace Sys2Proof

variable {c : Config} {cmd : Byte} {data : List Byte} {a : Nibble}

/-! ### Frames (R70 to R73) -/

/-- A frame that fits has an accepted length byte. -/
theorem lengthAccepted_frameLength (hc : c.legal = true) (hd : data.length + 1 ≤ c.payloadMax) :
    lengthAccepted c (frameLength c data) = true := by
  obtain ⟨-, ⟨-, -, hp, -⟩, -⟩ := (Machine.legal_iff c).1 hc
  rw [Machine.lengthAccepted_iff, Machine.frameLength_toNat c data hc hd]
  omega

/-- The block's validator accepts every frame that fits, with its command byte and data bytes. -/
theorem decodeFrame_encodeFrame (hc : c.legal = true) (hd : data.length + 1 ≤ c.payloadMax) :
    decodeFrame c (encodeFrame c cmd data) = .ok (cmd, data) := by
  have hn : (frameLength c data).toNat - c.overhead - 1 = data.length := by
    rw [Machine.frameLength_toNat c data hc hd]
    omega
  simp [encodeFrame, decodeFrame, hn, lengthAccepted_frameLength hc hd]

/-- In a legal configuration a frame of two data bytes fits, since it has at least one channel (R8). -/
theorem length_le_payloadMax_of_le_two (hc : c.legal = true) (hd : data.length ≤ 2) :
    data.length + 1 ≤ c.payloadMax := by
  obtain ⟨⟨-, -, -, hch⟩, ⟨-, -, -, h1, -⟩, -⟩ := (Machine.legal_iff c).1 hc
  omega

/-- A received frame is read by the operation map (R77). -/
theorem decode_inbound_encodeFrame (en : Bool) (count : Nat) (hc : c.legal = true)
    (hd : data.length + 1 ≤ c.payloadMax) :
    decode c (.inbound en count (encodeFrame c cmd data)) =
      .ok (classify en count (data.length + 1) cmd data).toInstr := by
  simp only [decode, decodeFrame_encodeFrame hc hd]

/-- A sent frame is read as a reply (R80). -/
theorem decode_outbound_encodeFrame (hc : c.legal = true) (hd : data.length + 1 ≤ c.payloadMax) :
    decode c (.outbound (encodeFrame c cmd data)) = classifyReply cmd data := by
  simp only [decode, decodeFrame_encodeFrame hc hd]

/-! ### Command bytes (R76, R81) -/

/-- The command byte of a known sub-command holds the slot and the sub-command apart, and is not the control command. -/
theorem commandByte_fields : ∀ sub ∈ [subDiscover, subType, subValue], ∀ a : Nibble,
    cmdAddr (commandByte sub a) = a ∧ cmdSub (commandByte sub a) = sub ∧ commandByte sub a ≠ cmdSetChannels := by
  decide

/-- Masking a command byte with 0x0F leaves its address. -/
theorem and_lowNibble_eq_cmdAddr (cmd : Byte) : cmd &&& 0x0F#8 = (cmdAddr cmd).setWidth 8 := by
  ext i hi
  interval_cases i <;> simp [cmdAddr]

/-- A command byte with an address other than 0 is not the control command, whose address is 0. -/
theorem ne_cmdSetChannels_of_cmdAddr_ne_zero (h : cmdAddr cmd ≠ 0#4) : cmd ≠ cmdSetChannels := by
  rintro rfl
  exact h (by decide)

/-! ### Selection (R77, R80, R101) -/

/-- With telemetry enabled and every slot registered, a poll of any slot but 0 is dispatched (R151). -/
theorem dispatchedPoll_of_ne_zero (ha : a ≠ 0#4) : dispatchedPoll true Config.maxSlots 1 a = true := by
  have hpos : 1 ≤ a.toNat := Nat.pos_of_ne_zero fun h => ha (BitVec.eq_of_toNat_eq h)
  have hle : a.toNat ≤ Config.maxSlots := Nat.le_of_lt_succ a.isLt
  simp [dispatchedPoll, hpos, hle]

theorem classify_pollDiscover (ha : a ≠ 0#4) :
    classify true Config.maxSlots 1 (commandByte subDiscover a) data = .pollDiscover a := by
  obtain ⟨haddr, hsub, hne⟩ := commandByte_fields subDiscover (by simp) a
  simp [classify, hne, haddr, hsub, dispatchedPoll_of_ne_zero ha]

theorem classify_pollType (ha : a ≠ 0#4) :
    classify true Config.maxSlots 1 (commandByte subType a) data = .pollType a := by
  obtain ⟨haddr, hsub, hne⟩ := commandByte_fields subType (by simp) a
  have h8 : subType ≠ subDiscover := by decide
  simp [classify, hne, haddr, hsub, dispatchedPoll_of_ne_zero ha, h8]

theorem classify_pollValue (ha : a ≠ 0#4) :
    classify true Config.maxSlots 1 (commandByte subValue a) data = .pollValue a := by
  obtain ⟨haddr, hsub, hne⟩ := commandByte_fields subValue (by simp) a
  have h8 : subValue ≠ subDiscover := by decide
  have h9 : subValue ≠ subType := by decide
  simp [classify, hne, haddr, hsub, dispatchedPoll_of_ne_zero ha, h8, h9]

theorem classify_pollUnknown (ha : cmdAddr cmd ≠ 0#4) (h8 : cmdSub cmd ≠ subDiscover) (h9 : cmdSub cmd ≠ subType)
    (hA : cmdSub cmd ≠ subValue) : classify true Config.maxSlots 1 cmd data = .pollUnknown cmd := by
  simp [classify, ne_cmdSetChannels_of_cmdAddr_ne_zero ha, dispatchedPoll_of_ne_zero ha, h8, h9, hA]

/-- With telemetry disabled every frame but a control frame is ignored (R77 row 6). -/
theorem classify_telemetry_disabled (count plen : Nat) (hne : cmd ≠ cmdSetChannels) :
    classify false count plen cmd data = .ignored cmd data := by
  simp [classify, hne, dispatchedPoll]

theorem classifyReply_discover (ha : a ≠ 0#4) :
    classifyReply (commandByte subDiscover a) [] = .ok (.replyDiscover a) := by
  obtain ⟨haddr, hsub, -⟩ := commandByte_fields subDiscover (by simp) a
  simp [classifyReply, haddr, hsub, ha]

theorem classifyReply_type (ty : Byte) (ha : a ≠ 0#4) :
    classifyReply (commandByte subType a) [ty, typeReplyByte] = .ok (.replyType a ty) := by
  obtain ⟨haddr, hsub, -⟩ := commandByte_fields subType (by simp) a
  simp [classifyReply, haddr, hsub, ha]

theorem classifyReply_value (v : Half) (ha : a ≠ 0#4) :
    classifyReply (commandByte subValue a) [lo8 v, hi8 v] = .ok (.replyValue a v) := by
  obtain ⟨haddr, hsub, -⟩ := commandByte_fields subValue (by simp) a
  have h9 : subValue ≠ subType := by decide
  simp [classifyReply, haddr, hsub, ha, h9]

/-- The operand condition of the two length rows is the block's own bounds check (R71, R102). -/
theorem lengthInBounds_eq_lengthAccepted (c : Config) (b : Byte) : lengthInBounds c b = lengthAccepted c b := rfl

/-- RX_BYTE's word at a decoder state is the row that the state selects (R111). -/
theorem decode_rxEvent_rxWord (d : DState) (b : Byte) (t : Millis) :
    decode c (.rxEvent d (rxWord b t)) = .ok ((selectRx c d b).toInstr b t) := by
  simp only [decode, decodeEvent_rxWord]

end Sys2Proof
end

section
/-!
SUPPORT. What a step does to the parameters: nothing (spec/00_scope.md R7; log 5).
-/

namespace Sys2Proof.Machine

variable (s : State)

/-! ### The rows of RX_BYTE (R101) -/

/-- A row with its own rule is the rule that the decoder state selects, whichever that is. -/
theorem onRow_rowRule (r : RxRow) (b : Byte) : onRow r (rowRule r b) b s = perState b s := by
  by_cases h : selectRx s.cfg s.dstate b = r
  · rw [onRow_of_selected r _ b s h, perState, h]
  · exact onRow_of_not_selected r _ b s h

/-- So every row of RX_BYTE means what RX_BYTE means. -/
theorem exec_rxRow (r : RxRow) (b : Byte) (t : Millis) : exec (r.toInstr b t) s = execRxByte b t s := by
  rw [execRxByte, ← onRow_rowRule (gapRule t s) r b]
  cases r <;> rfl

/-! ### The parameters -/

@[simp] theorem setChannels_cfg (data : List Byte) : (setChannels data s).cfg = s.cfg := rfl
@[simp] theorem ignoreFrame_cfg (cmd : Byte) : (ignoreFrame cmd s).cfg = s.cfg := rfl
@[simp] theorem unknownPoll_cfg (cmd : Byte) : (unknownPoll cmd s).cfg = s.cfg := rfl
@[simp] theorem answerDiscover_cfg (a : Nibble) : (answerDiscover a s).cfg = s.cfg := by
  simp [answerDiscover, replyDiscover]
@[simp] theorem answerType_cfg (a : Nibble) : (answerType a s).cfg = s.cfg := by simp [answerType, replyType]
@[simp] theorem answerValue_cfg (a : Nibble) : (answerValue a s).cfg = s.cfg := by simp [answerValue, replyValue]
@[simp] theorem writeSensorValue_cfg (slot : Nat) (v : Half) : (writeSensorValue slot v s).cfg = s.cfg := by
  simp [writeSensorValue]
@[simp] theorem appendSensor_cfg (ty : Byte) : (appendSensor ty s).cfg = s.cfg := by simp [appendSensor]

@[simp] theorem dispatchFrame_cfg : (dispatchFrame s).cfg = s.cfg := by
  rcases dispatchFrame_cases s with h | ⟨a, -, h | h | h⟩ | h | h <;> simp [h]

@[simp] theorem checksumHigh_cfg (b : Byte) : (checksumHigh b s).cfg = s.cfg := by
  simp only [checksumHigh]
  split <;> simp

@[simp] theorem lengthReject_cfg (b : Byte) : (lengthReject b s).cfg = s.cfg := rfl

@[simp] theorem perState_cfg (b : Byte) : (perState b s).cfg = s.cfg := by
  rcases perState_cases b s with ⟨-, -, h⟩ | ⟨-, -, h⟩ | ⟨-, h⟩ | ⟨-, h⟩ | ⟨-, h⟩ | ⟨-, h⟩ <;> simp [h]

variable {s} {u : State}

/-- A guarded event keeps the parameters when the state it goes to has them. -/
theorem cfg_of_afterInit {t : State} (h : afterInit s t = .next u) (ht : t.cfg = s.cfg) : u.cfg = s.cfg := by
  obtain ⟨-, rfl⟩ := (afterInit_eq_next s t u).1 h
  exact ht

theorem execRxByte_cfg {b : Byte} {t : Millis} (h : execRxByte b t s = .next u) : u.cfg = s.cfg :=
  cfg_of_afterInit h (by simp)

/-- No instruction writes the parameters. -/
theorem exec_cfg (i : Instr) (h : exec i s = .next u) : u.cfg = s.cfg := by
  cases i with
  | setChannels data => cases h; rfl
  | pollDiscover a =>
    cases h
    split <;> simp
  | pollType a =>
    cases h
    split <;> simp
  | pollValue a =>
    cases h
    split <;> simp
  | pollUnknown cmd =>
    cases h
    split <;> simp
  | ignored cmd data => cases h; rfl
  | replyDiscover a => cases h; rfl
  | replyType a ty => cases h; rfl
  | replyValue a v => cases h; rfl
  | rxLengthAccept b t => exact execRxByte_cfg (exec_rxRow s .lengthAccept b t ▸ h)
  | rxLengthReject b t => exact execRxByte_cfg (exec_rxRow s .lengthReject b t ▸ h)
  | rxPayload b t => exact execRxByte_cfg (exec_rxRow s .payload b t ▸ h)
  | rxChecksumLow b t => exact execRxByte_cfg (exec_rxRow s .checksumLow b t ▸ h)
  | rxChecksumHigh b t => exact execRxByte_cfg (exec_rxRow s .checksumHigh b t ▸ h)
  | rxDiscard b t => exact execRxByte_cfg (exec_rxRow s .discard b t ▸ h)
  | init en t => cases h; rfl
  | rxByte b t => exact execRxByte_cfg h
  | readChannel n => exact cfg_of_afterInit h (by simp)
  | registerSensor ty => exact cfg_of_afterInit h (by split <;> simp)
  | setSensorValue slot v => exact cfg_of_afterInit h (by split <;> simp)
  | readCounter k =>
    simp only [exec, execReadCounter] at h
    split at h
    · exact cfg_of_afterInit h (by simp)
    · split at h <;> cases h
  | reservedOp110 x => cases h
  | reservedOp111 x => cases h

/-! ### The step (R8, R11, R90) -/

/-- A step in a legal configuration runs the decoded oldest event. -/
theorem step_of_decoded {e : EventWord} {rest : List EventWord} {i : Instr} (hc : s.cfg.legal = true)
    (he : s.events = e :: rest) (hd : decodeEvent e = .ok i) : step s = exec i { s with events := rest } := by
  simp only [step, nextEvent, hc, he, hd, if_true]

/-- A step in any other configuration is refused (log 6). -/
theorem step_of_not_legal (hc : ¬ s.cfg.legal = true) : step s = .refused .illegalConfiguration := if_neg hc

end Sys2Proof.Machine
end

section
/-!
PROOFS. The statements of spec/00_scope.md's family.
-/

namespace Sys2Proof.Proofs

open Sys2Proof Sys2Proof.Machine

/-- Settles O1: frame rows by the validator and the operation map, RX_BYTE's rows by the decoder state's selection,
events by their words. -/
theorem decodeInvertsEncode : Obligations.DecodeInvertsEncode := by
  intro c i hc hw
  have hshort : ∀ data : List Byte, data.length ≤ 2 → data.length + 1 ≤ c.payloadMax :=
    fun _ => length_le_payloadMax_of_le_two hc
  cases i with
  | setChannels data =>
    rw [encode, decode_inbound_encodeFrame _ _ hc (of_decide_eq_true hw)]
    rfl
  | pollDiscover a =>
    rw [encode, decode_inbound_encodeFrame _ _ hc (hshort _ (by simp))]
    exact congrArg (Except.ok ∘ FrameOp.toInstr) (classify_pollDiscover (bne_iff_ne.1 hw))
  | pollType a =>
    rw [encode, decode_inbound_encodeFrame _ _ hc (hshort _ (by simp))]
    exact congrArg (Except.ok ∘ FrameOp.toInstr) (classify_pollType (bne_iff_ne.1 hw))
  | pollValue a =>
    rw [encode, decode_inbound_encodeFrame _ _ hc (hshort _ (by simp))]
    exact congrArg (Except.ok ∘ FrameOp.toInstr) (classify_pollValue (bne_iff_ne.1 hw))
  | pollUnknown cmd =>
    simp only [Instr.wf, Bool.and_eq_true, bne_iff_ne] at hw
    obtain ⟨⟨⟨hlow, h8⟩, h9⟩, hA⟩ := hw
    have haddr : cmdAddr cmd ≠ 0#4 := fun h => hlow (by rw [and_lowNibble_eq_cmdAddr, h]; rfl)
    rw [encode, decode_inbound_encodeFrame _ _ hc (hshort _ (by simp))]
    exact congrArg (Except.ok ∘ FrameOp.toInstr) (classify_pollUnknown haddr h8 h9 hA)
  | ignored cmd data =>
    obtain ⟨hne, hd⟩ := Bool.and_eq_true_iff.1 hw
    rw [encode, decode_inbound_encodeFrame _ _ hc (of_decide_eq_true hd),
      classify_telemetry_disabled _ _ (bne_iff_ne.1 hne), FrameOp.toInstr]
  | replyDiscover a =>
    rw [encode, decode_outbound_encodeFrame hc (hshort _ (by simp)), classifyReply_discover (bne_iff_ne.1 hw)]
  | replyType a ty =>
    rw [encode, decode_outbound_encodeFrame hc (hshort _ (by simp)), classifyReply_type ty (bne_iff_ne.1 hw)]
  | replyValue a v =>
    rw [encode, decode_outbound_encodeFrame hc (hshort _ (by simp)), classifyReply_value v (bne_iff_ne.1 hw)]
  | rxLengthAccept b t =>
    have hb : lengthAccepted c b = true := lengthInBounds_eq_lengthAccepted c b ▸ hw
    rw [encode, decode_rxEvent_rxWord, selectRx, if_pos hb, RxRow.toInstr]
  | rxLengthReject b t =>
    have hb : ¬ lengthAccepted c b = true := by simpa [Instr.wf, lengthInBounds_eq_lengthAccepted] using hw
    rw [encode, decode_rxEvent_rxWord, selectRx, if_neg hb, RxRow.toInstr]
  | rxPayload b t => exact decode_rxEvent_rxWord .accumulatingPayload b t
  | rxChecksumLow b t => exact decode_rxEvent_rxWord .awaitingChecksumLow b t
  | rxChecksumHigh b t => exact decode_rxEvent_rxWord .awaitingChecksumHigh b t
  | rxDiscard b t => exact decode_rxEvent_rxWord .discarding b t
  | init en t => exact decodeEvent_initWord en t
  | rxByte b t => exact decodeEvent_rxWord b t
  | readChannel n => exact decodeEvent_readChannel n
  | registerSensor ty => exact decodeEvent_registerSensor ty
  | setSensorValue slot v => exact decodeEvent_setSensorValue slot v
  | readCounter k => exact decodeEvent_readCounter k
  | reservedOp110 x => exact decodeEvent_reservedOp110 x
  | reservedOp111 x => exact decodeEvent_reservedOp111 x

/-- Settles O52: an idle step keeps the whole state, and no instruction writes the parameters. -/
theorem stepKeepsTheParameters : Obligations.StepKeepsTheParameters := by
  intro s u h
  obtain ⟨-, ⟨-, rfl⟩ | ⟨e, rest, i, -, -, hexec⟩⟩ := step_next_cases s u h
  · rfl
  · exact (exec_cfg i hexec :)

/-- Settles O9, from the two bytes of a 16-bit value standing one above the other. -/
theorem wireByteOrderIsLittleEndian : Obligations.WireByteOrderIsLittleEndian :=
  fun lo hi v => ⟨u16_toNat lo hi, lo8_u16 lo hi, hi8_u16 lo hi, u16_lo8_hi8 v⟩

/-- Settles O12, the decoded branch of the step. -/
theorem stepRunsTheDecodedEvent : Obligations.StepRunsTheDecodedEvent :=
  fun _ _ _ _ hc he hd => step_of_decoded hc he hd

/-- Settles O13: a configuration that breaks a constraint is not legal, and R7's values are in the constraints. -/
theorem illegalConfigurationIsRefused : Obligations.IllegalConfigurationIsRefused := by
  refine ⟨fun s hbroken => step_of_not_legal fun hc => ?_, fun c ho hm hp hch hs => by omega⟩
  obtain ⟨⟨hs, hm, ho, hp⟩, -⟩ := (legal_iff s.cfg).1 hc
  omega

/-- Settles O43: the reset state writes out each of these values, and the standard configuration R7's. -/
theorem resetHoldsTheInitValues : Obligations.ResetHoldsTheInitValues :=
  ⟨rfl, rfl, rfl, rfl, rfl, rfl, rfl, rfl, rfl, rfl, rfl, rfl, rfl, rfl, rfl⟩

end Sys2Proof.Proofs
end

section
/-!
SUPPORT. The accumulator and the payload buffer: the sum behind the checksum under one more byte, the payload stored so
far under one more byte, and the length byte that an accepted `plen` gives back (spec/10_state.md R22 to R26, R74).
-/

namespace Sys2Proof

/-! ### The checksum, byte by byte (R72, R74) -/

theorem byteSum_append (xs ys : List Byte) : byteSum (xs ++ ys) = byteSum xs + byteSum ys := by
  induction xs with
  | nil => simp [byteSum]
  | cons x xs ih => simp [byteSum, ih, BitVec.add_assoc]

/-- Lowering a value by each of some bytes lowers it by their sum. -/
theorem foldl_sub_setWidth (bs : List Byte) (a : Half) :
    bs.foldl (fun a b => a - b.setWidth 16) a = a - byteSum bs := by
  induction bs generalizing a with
  | nil => simp [byteSum]
  | cons b bs ih => rw [List.foldl_cons, ih, byteSum, BitVec.sub_sub]

theorem checksum_singleton (l : Byte) : checksum [l] = 0xFFFF#16 - l.setWidth 16 := by
  simp [checksum, byteSum]

/-- One more byte at the end lowers the checksum by that byte. -/
theorem checksum_append_singleton (bytes : List Byte) (b : Byte) :
    checksum (bytes ++ [b]) = checksum bytes - b.setWidth 16 := by
  simp [checksum, byteSum_append, byteSum, BitVec.sub_sub]

end Sys2Proof

namespace Sys2Proof.Machine

variable {s : State} {b : Byte}

/-! ### The length byte and `plen` (R22, R102) -/

/-- The payload length that an accepted length byte declares is in R22's range, so it fits the 5-bit register. -/
theorem lengthAccept_plen_toNat (hc : s.cfg.legal = true) (hb : lengthAccepted s.cfg b = true) :
    (lengthAccept b s).plen.toNat = b.toNat - s.cfg.overhead ∧
      1 ≤ (lengthAccept b s).plen.toNat ∧ (lengthAccept b s).plen.toNat ≤ s.cfg.payloadMax := by
  obtain ⟨-, ⟨-, -, hp, -⟩, hp29, -⟩ := (legal_iff s.cfg).1 hc
  obtain ⟨hlo, hhi⟩ := (lengthAccepted_iff s.cfg b).1 hb
  rw [lengthAccept_plen, BitVec.toNat_ofNat]
  omega

/-- `plen` gives back the accepted length byte. -/
theorem frameLengthByte_lengthAccept (hc : s.cfg.legal = true) (hb : lengthAccepted s.cfg b = true) :
    frameLengthByte (lengthAccept b s) = b := by
  obtain ⟨hlo, -⟩ := (lengthAccepted_iff s.cfg b).1 hb
  rw [frameLengthByte, (lengthAccept_plen_toNat hc hb).1, lengthAccept_cfg, Nat.sub_add_cancel (Nat.le_of_lt hlo)]
  simp

/-! ### The payload stored so far (R23, R104) -/

/-- While `ptr` is below a 5-bit bound it counts without wrapping. -/
theorem ptr_succ_toNat {p q : BitVec 5} (h : p.toNat < q.toNat) : (p + 1#5).toNat = p.toNat + 1 := by
  rw [BitVec.toNat_add, BitVec.toNat_ofNat]
  omega

theorem storedPayload_lengthAccept : storedPayload (lengthAccept b s) = [] := by
  simp [storedPayload]

/-- A payload byte is stored at the end of the payload so far. -/
theorem storedPayload_payloadByte (hp : s.ptr.toNat < s.plen.toNat) (hp29 : s.plen.toNat ≤ 29) :
    storedPayload (payloadByte b s) = storedPayload s ++ [b] := by
  have hlt : s.ptr.toNat < 29 := by omega
  simp [storedPayload, ptr_succ_toNat hp, List.take_add_one, List.take_set_of_le, hlt]

end Sys2Proof.Machine
end

section
/-!
SUPPORT. What an instruction keeps: the frame relations, the operation of a validated frame as one function, and what an
instruction other than INIT can do to the state (spec/10_state.md R33, R37, R43).
-/

namespace Sys2Proof.Machine

/-! ### What is kept -/

/-- The host's side of the block, which a received byte keeps (R33, R43, R52). -/
structure KeepsHostSide (s u : State) : Prop where
  sens : u.sens = s.sens
  sensorCount : u.sensorCount = s.sensorCount
  telemetryEnable : u.telemetryEnable = s.telemetryEnable
  results : u.results = s.results
  initDone : u.initDone = s.initDone
  cfg : u.cfg = s.cfg
  events : u.events = s.events

/-- The frame-assembly registers, and the parameters that bound them (R21 to R26, R196). -/
structure KeepsAssembly (s u : State) : Prop where
  cfg : u.cfg = s.cfg
  dstate : u.dstate = s.dstate
  plen : u.plen = s.plen
  ptr : u.ptr = s.ptr
  acc : u.acc = s.acc
  rxLo : u.rxLo = s.rxLo
  buf : u.buf = s.buf

/-- The registry (R29, R30). -/
structure KeepsRegistry (s u : State) : Prop where
  sens : u.sens = s.sens
  sensorCount : u.sensorCount = s.sensorCount

/-- `s` with the channels, the counters of valid frames, the transmit stream and the observations of `u`. -/
def withOutputsOf (u s : State) : State :=
  { s with
    ch := u.ch
    cntRec := u.cntRec
    cntPoll := u.cntPoll
    cntSensor := u.cntSensor
    tx := u.tx
    outcomes := u.outcomes
    guards := u.guards }

/-- Going from `s` to `u` writes at most these outputs: what a validated frame's operation and a reply may do (R134,
R153). -/
def WritesOutputsOnly (s u : State) : Prop := u = withOutputsOf u s

variable {s t u : State}

theorem KeepsHostSide.trans (h : KeepsHostSide s t) (h' : KeepsHostSide t u) : KeepsHostSide s u where
  sens := h'.sens.trans h.sens
  sensorCount := h'.sensorCount.trans h.sensorCount
  telemetryEnable := h'.telemetryEnable.trans h.telemetryEnable
  results := h'.results.trans h.results
  initDone := h'.initDone.trans h.initDone
  cfg := h'.cfg.trans h.cfg
  events := h'.events.trans h.events

theorem KeepsHostSide.keepsRegistry (h : KeepsHostSide s u) : KeepsRegistry s u := ⟨h.sens, h.sensorCount⟩

theorem WritesOutputsOnly.refl (s : State) : WritesOutputsOnly s s := rfl

theorem WritesOutputsOnly.trans (h : WritesOutputsOnly s t) (h' : WritesOutputsOnly t u) : WritesOutputsOnly s u :=
  Eq.trans h' (congrArg (withOutputsOf u) h :)

theorem observe_writesOutputsOnly (o : Observation) (s : State) : WritesOutputsOnly s (observe o s) := rfl

theorem WritesOutputsOnly.keepsHostSide (h : WritesOutputsOnly s u) : KeepsHostSide s u where
  sens := (congrArg State.sens h :)
  sensorCount := (congrArg State.sensorCount h :)
  telemetryEnable := (congrArg State.telemetryEnable h :)
  results := (congrArg State.results h :)
  initDone := (congrArg State.initDone h :)
  cfg := (congrArg State.cfg h :)
  events := (congrArg State.events h :)

theorem WritesOutputsOnly.keepsAssembly (h : WritesOutputsOnly s u) : KeepsAssembly s u where
  cfg := (congrArg State.cfg h :)
  dstate := (congrArg State.dstate h :)
  plen := (congrArg State.plen h :)
  ptr := (congrArg State.ptr h :)
  acc := (congrArg State.acc h :)
  rxLo := (congrArg State.rxLo h :)
  buf := (congrArg State.buf h :)

/-- A read of the registry depends on its entries alone. -/
theorem readSensor_congr (h : u.sens = s.sens) (slot : Nat) : readSensor slot u = readSensor slot s := by
  simp only [readSensor, h]

/-! ### The operation of a validated frame (R77, R106) -/

/-- The state that an inbound operation goes to. -/
def runFrameOp (op : FrameOp) (s : State) : State :=
  match op with
  | .setChannels data => setChannels data s
  | .pollDiscover a => if pollDispatched a s then answerDiscover a s else ignoreFrame (commandByte subDiscover a) s
  | .pollType a => if pollDispatched a s then answerType a s else ignoreFrame (commandByte subType a) s
  | .pollValue a => if pollDispatched a s then answerValue a s else ignoreFrame (commandByte subValue a) s
  | .pollUnknown cmd => if pollDispatched (cmdAddr cmd) s then unknownPoll cmd s else ignoreFrame cmd s
  | .ignored cmd _ => ignoreFrame cmd s

theorem exec_frameOp (op : FrameOp) (s : State) : exec op.toInstr s = .next (runFrameOp op s) := by
  cases op <;> rfl

/-- The dispatch of a frame runs the operation that the frame selects. -/
theorem dispatchFrame_eq_runFrameOp (s : State) : dispatchFrame s = runFrameOp (frameOp s) s := by
  have hp : dispatchedPoll s.telemetryEnable s.sensorCount s.plen.toNat (cmdAddr (frameCommand s)) = true →
      pollDispatched (cmdAddr (frameCommand s)) s = true := by
    simp only [pollDispatched, dispatchedPoll, Bool.and_eq_true, beq_self_eq_true]
    exact fun ⟨⟨⟨_, hen⟩, hpos⟩, hle⟩ => ⟨⟨⟨trivial, hen⟩, hpos⟩, hle⟩
  unfold dispatchFrame frameOp
  rcases classify_cases s.telemetryEnable s.sensorCount s.plen.toNat (frameCommand s) (frameData s) with
    ⟨-, h⟩ | ⟨-, hd, ⟨-, h⟩ | ⟨-, h⟩ | ⟨-, h⟩ | ⟨-, -, -, h⟩⟩ | ⟨-, -, h⟩ <;> rw [h]
  · rfl
  · exact (if_pos (hp hd)).symm
  · exact (if_pos (hp hd)).symm
  · exact (if_pos (hp hd)).symm
  · exact (if_pos (hp hd)).symm
  · rfl

theorem countPoll_writesOutputsOnly (scopes : List PollCountScope) (s : State) :
    WritesOutputsOnly s (countPoll scopes s) := by
  unfold countPoll
  split <;> rfl

theorem countValueReply_writesOutputsOnly (s : State) : WritesOutputsOnly s (countValueReply s) := rfl

theorem sendReply_writesOutputsOnly (a : Nibble) (sub : Byte) (data : List Byte) (s : State) :
    WritesOutputsOnly s (sendReply a sub data s) := rfl

theorem answerDiscover_writesOutputsOnly (a : Nibble) (s : State) : WritesOutputsOnly s (answerDiscover a s) :=
  ((countPoll_writesOutputsOnly _ s).trans (sendReply_writesOutputsOnly _ _ _ _)).trans (observe_writesOutputsOnly _ _)

theorem answerType_writesOutputsOnly (a : Nibble) (s : State) : WritesOutputsOnly s (answerType a s) :=
  ((countPoll_writesOutputsOnly _ s).trans (sendReply_writesOutputsOnly _ _ _ _)).trans (observe_writesOutputsOnly _ _)

theorem answerValue_writesOutputsOnly (a : Nibble) (s : State) : WritesOutputsOnly s (answerValue a s) :=
  have hcount : WritesOutputsOnly s (countPoll [.allAnswered] (countValueReply s)) :=
    (countValueReply_writesOutputsOnly s).trans (countPoll_writesOutputsOnly _ _)
  (hcount.trans (sendReply_writesOutputsOnly _ _ _ _)).trans (observe_writesOutputsOnly _ _)

theorem runFrameOp_writesOutputsOnly (op : FrameOp) (s : State) : WritesOutputsOnly s (runFrameOp op s) := by
  cases op with
  | setChannels data => rfl
  | pollDiscover a =>
    rw [runFrameOp]
    split
    · exact answerDiscover_writesOutputsOnly a s
    · rfl
  | pollType a =>
    rw [runFrameOp]
    split
    · exact answerType_writesOutputsOnly a s
    · rfl
  | pollValue a =>
    rw [runFrameOp]
    split
    · exact answerValue_writesOutputsOnly a s
    · rfl
  | pollUnknown cmd =>
    rw [runFrameOp]
    split <;> rfl
  | ignored cmd data => rfl

/-! ### A received byte (R33, R101) -/

theorem gapRule_keepsHostSide (t : Millis) (s : State) : KeepsHostSide s (gapRule t s) := by
  constructor <;> simp

theorem checksumHigh_keepsHostSide (b : Byte) (s : State) : KeepsHostSide s (checksumHigh b s) := by
  have hout : WritesOutputsOnly s
      (if checksumMatch b s then dispatchFrame s else observe (.checksumMismatch (receivedChecksum b s) s.acc) s) := by
    split
    · rw [dispatchFrame_eq_runFrameOp]
      exact runFrameOp_writesOutputsOnly _ s
    · rfl
  exact hout.keepsHostSide.trans ⟨rfl, rfl, rfl, rfl, rfl, rfl, rfl⟩

theorem perState_keepsHostSide (b : Byte) (s : State) : KeepsHostSide s (perState b s) := by
  rcases perState_cases b s with ⟨-, -, h⟩ | ⟨-, -, h⟩ | ⟨-, h⟩ | ⟨-, h⟩ | ⟨-, h⟩ | ⟨-, h⟩ <;> rw [h]
  · exact ⟨rfl, rfl, rfl, rfl, rfl, rfl, rfl⟩
  · exact ⟨rfl, rfl, rfl, rfl, rfl, rfl, rfl⟩
  · exact ⟨rfl, rfl, rfl, rfl, rfl, rfl, rfl⟩
  · exact ⟨rfl, rfl, rfl, rfl, rfl, rfl, rfl⟩
  · exact checksumHigh_keepsHostSide b s
  · exact ⟨rfl, rfl, rfl, rfl, rfl, rfl, rfl⟩

theorem receive_keepsHostSide (b : Byte) (t : Millis) (s : State) : KeepsHostSide s (perState b (gapRule t s)) :=
  (gapRule_keepsHostSide t s).trans (perState_keepsHostSide b _)

/-! ### All that an instruction other than INIT can do -/

/-- The kinds of next state that an instruction other than INIT goes to. -/
inductive Effect (s : State) : State → Prop
  /-- RX_BYTE and its rows. -/
  | received (b : Byte) (t : Millis) : Effect s (perState b (gapRule t s))
  /-- The frame rows, the replies, and a SET_SENSOR_VALUE out of range. -/
  | outputs {u : State} (h : WritesOutputsOnly s u) : Effect s u
  /-- READ_CHANNEL, READ_COUNTER, and a REGISTER_SENSOR at capacity. -/
  | answered {t : State} (h : WritesOutputsOnly s t) (r : HostResult) : Effect s (returnResult r t)
  /-- A REGISTER_SENSOR below capacity. -/
  | registered (ty : Byte) (r : HostResult) (h : s.sensorCount < s.cfg.sensorCapacity) :
    Effect s (returnResult r (appendSensor ty s))
  /-- A SET_SENSOR_VALUE of a registered slot. -/
  | valueSet (slot : Nat) (v : Half) (h : 1 ≤ slot) (h' : slot ≤ s.sensorCount) : Effect s (writeSensorValue slot v s)

theorem effect_of_frameOp (op : FrameOp) (h : exec op.toInstr s = .next u) : Effect s u := by
  rw [exec_frameOp, Host.Outcome.next.injEq] at h
  exact h ▸ .outputs (runFrameOp_writesOutputsOnly op s)

theorem effect_of_rxRow (r : RxRow) (b : Byte) (t : Millis) (h : exec (r.toInstr b t) s = .next u) : Effect s u := by
  rw [exec_rxRow, execRxByte, afterInit_eq_next] at h
  exact h.2 ▸ .received b t

theorem effect_of_registerSensor (ty : Byte) (h : exec (.registerSensor ty) s = .next u) : Effect s u := by
  obtain ⟨-, rfl⟩ := (afterInit_eq_next _ _ _).1 h
  by_cases hcap : s.sensorCount < s.cfg.sensorCapacity
  · simp only [if_pos hcap]
    exact .registered ty _ hcap
  · simp only [if_neg hcap]
    exact .answered (observe_writesOutputsOnly _ s) _

theorem effect_of_setSensorValue (slot : Byte) (v : Half) (h : exec (.setSensorValue slot v) s = .next u) :
    Effect s u := by
  obtain ⟨-, rfl⟩ := (afterInit_eq_next _ _ _).1 h
  split
  next hslot => exact .valueSet slot.toNat v hslot.1 hslot.2
  next => exact .outputs rfl

theorem effect_of_readCounter (k : Byte) (h : exec (.readCounter k) s = .next u) : Effect s u := by
  simp only [exec, execReadCounter] at h
  split at h
  · obtain ⟨-, rfl⟩ := (afterInit_eq_next _ _ _).1 h
    exact .answered (.refl s) _
  · split at h <;> cases h

/-- An instruction with a next state is INIT or has one of these effects. -/
theorem init_or_effect (i : Instr) (h : exec i s = .next u) : (∃ en t, i = .init en t) ∨ Effect s u := by
  cases i with
  | setChannels data => exact .inr (effect_of_frameOp (.setChannels data) h)
  | pollDiscover a => exact .inr (effect_of_frameOp (.pollDiscover a) h)
  | pollType a => exact .inr (effect_of_frameOp (.pollType a) h)
  | pollValue a => exact .inr (effect_of_frameOp (.pollValue a) h)
  | pollUnknown cmd => exact .inr (effect_of_frameOp (.pollUnknown cmd) h)
  | ignored cmd data => exact .inr (effect_of_frameOp (.ignored cmd data) h)
  | replyDiscover a => cases h; exact .inr (.outputs (sendReply_writesOutputsOnly _ _ _ s))
  | replyType a ty => cases h; exact .inr (.outputs (sendReply_writesOutputsOnly _ _ _ s))
  | replyValue a v => cases h; exact .inr (.outputs (sendReply_writesOutputsOnly _ _ _ s))
  | rxLengthAccept b t => exact .inr (effect_of_rxRow .lengthAccept b t h)
  | rxLengthReject b t => exact .inr (effect_of_rxRow .lengthReject b t h)
  | rxPayload b t => exact .inr (effect_of_rxRow .payload b t h)
  | rxChecksumLow b t => exact .inr (effect_of_rxRow .checksumLow b t h)
  | rxChecksumHigh b t => exact .inr (effect_of_rxRow .checksumHigh b t h)
  | rxDiscard b t => exact .inr (effect_of_rxRow .discard b t h)
  | init en t => exact .inl ⟨en, t, rfl⟩
  | rxByte b t =>
    obtain ⟨-, rfl⟩ := (afterInit_eq_next _ _ _).1 h
    exact .inr (.received b t)
  | readChannel n =>
    obtain ⟨-, rfl⟩ := (afterInit_eq_next _ _ _).1 h
    exact .inr (.answered (.refl s) _)
  | registerSensor ty => exact .inr (effect_of_registerSensor ty h)
  | setSensorValue slot v => exact .inr (effect_of_setSensorValue slot v h)
  | readCounter k => exact .inr (effect_of_readCounter k h)
  | reservedOp110 x => cases h
  | reservedOp111 x => cases h

/-! ### The frame-assembly registers and the registry under the other effects -/

theorem WritesOutputsOnly.returnResult_keepsAssembly (h : WritesOutputsOnly s t) (r : HostResult) :
    KeepsAssembly s (returnResult r t) :=
  let k := h.keepsAssembly
  ⟨k.cfg, k.dstate, k.plen, k.ptr, k.acc, k.rxLo, k.buf⟩

theorem appendSensor_keepsAssembly (ty : Byte) (s : State) : KeepsAssembly s (appendSensor ty s) := by
  constructor <;> simp [appendSensor]

theorem writeSensorValue_keepsAssembly (slot : Nat) (v : Half) (s : State) :
    KeepsAssembly s (writeSensorValue slot v s) := by
  constructor <;> simp [writeSensorValue]

@[simp] theorem appendSensor_sensorCount (ty : Byte) (s : State) :
    (appendSensor ty s).sensorCount = s.sensorCount + 1 := by
  simp [appendSensor]

@[simp] theorem writeSensorValue_sensorCount (slot : Nat) (v : Half) (s : State) :
    (writeSensorValue slot v s).sensorCount = s.sensorCount := by
  simp [writeSensorValue]

/-- A registration leaves every slot but the next one as it was. -/
theorem readSensor_appendSensor_of_ne (ty : Byte) (s : State) {slot : Nat} (h : slot ≠ s.sensorCount + 1) :
    readSensor slot (appendSensor ty s) = readSensor slot s := by
  rw [appendSensor, readSensor_writeSensor_of_ne _ _ _ _ h.symm]
  rfl

/-- A value that the host sets leaves every type as it was, in every state. -/
theorem readSensor_writeSensorValue_type (slot m : Nat) (v : Half) (s : State) :
    (readSensor m (writeSensorValue slot v s)).type = (readSensor m s).type := by
  rw [writeSensorValue]
  by_cases hm : slot = m
  · subst hm
    by_cases h0 : slot = 0
    · simp [readSensor, h0]
    by_cases h15 : slot ≤ 15
    · rw [readSensor_writeSensor _ _ _ _ (Nat.pos_of_ne_zero h0) h15, if_pos rfl]
    · simp [readSensor, writeSensor, h0, Vector.setIfInBounds_eq_of_size_le (show 15 ≤ slot - 1 by omega)]
  · rw [readSensor_writeSensor_of_ne _ _ _ _ hm]

end Sys2Proof.Machine
end

section
/-!
SUPPORT. The frame-assembly and registry invariant under each effect of an instruction, and the events that are refused
before the first INIT (spec/10_state.md R22 to R24, R29, R30, R39, R74).
-/

namespace Sys2Proof.Machine

variable {s u : State}

/-! ### The invariant in each decoder state -/

theorem Inv.legal (h : Inv s) : s.cfg.legal = true := h.1.1
theorem Inv.count_le (h : Inv s) : s.sensorCount ≤ s.cfg.sensorCapacity := h.1.2
theorem Inv.assembly (h : Inv s) : Machine.assemblyOk s := h.2

theorem assemblyOk_of_idle (h : s.dstate = .awaitingLength ∨ s.dstate = .discarding) : assemblyOk s := by
  rcases h with h | h <;> simp only [assemblyOk, h]

theorem assemblyOk_accumulating (h : s.dstate = .accumulatingPayload) :
    assemblyOk s ↔ s.plen.toNat ≤ s.cfg.payloadMax ∧ s.ptr.toNat < s.plen.toNat ∧ accInStep s := by
  simp only [assemblyOk, h]

/-- The payload is whole: `ptr = plen`, and the accumulator holds the frame's checksum. -/
def payloadWhole (s : State) : Prop :=
  1 ≤ s.plen.toNat ∧ s.plen.toNat ≤ s.cfg.payloadMax ∧ s.ptr = s.plen ∧ accInStep s

theorem assemblyOk_awaitingChecksum (h : s.dstate = .awaitingChecksumLow ∨ s.dstate = .awaitingChecksumHigh) :
    assemblyOk s ↔ payloadWhole s := by
  rcases h with h | h <;> simp only [assemblyOk, h, payloadWhole]

theorem KeepsAssembly.assemblyOk (h : KeepsAssembly s u) (hs : assemblyOk s) : assemblyOk u := by
  simpa only [Machine.assemblyOk, accInStep, frameLengthByte, storedPayload, h.cfg, h.dstate, h.plen, h.ptr, h.acc,
    h.buf] using hs

/-! ### Received bytes (R100 to R110) -/

theorem gapRule_assemblyOk (t : Millis) (h : assemblyOk s) : assemblyOk (gapRule t s) := by
  cases hgap : gapExceeded t s with
  | true => exact assemblyOk_of_idle (.inl (by simp [gapRule_dstate, hgap]))
  | false =>
    rw [gapRule_of_no_gap t s hgap]
    exact h

theorem gapRule_inv (t : Millis) (h : Inv s) : Inv (gapRule t s) :=
  ⟨by simpa [registryOk] using h.1, gapRule_assemblyOk t h.assembly⟩

/-- An accepted length byte starts the accumulator at the checksum of that byte alone. -/
theorem lengthAccept_assemblyOk {b : Byte} (hc : s.cfg.legal = true) (hb : lengthAccepted s.cfg b = true) :
    assemblyOk (lengthAccept b s) := by
  obtain ⟨-, hpos, hmax⟩ := lengthAccept_plen_toNat hc hb
  refine (assemblyOk_accumulating (lengthAccept_dstate s b)).2 ⟨hmax, hpos, ?_⟩
  rw [accInStep, frameLengthByte_lengthAccept hc hb, storedPayload_lengthAccept, checksum_singleton, lengthAccept_acc]

/-- A payload byte is taken from the accumulator as it is added to the stored payload. -/
theorem payloadByte_accInStep (b : Byte) (hp : s.ptr.toNat < s.plen.toNat) (hp29 : s.plen.toNat ≤ 29)
    (hacc : accInStep s) : accInStep (payloadByte b s) := by
  have hl : frameLengthByte (payloadByte b s) = frameLengthByte s := rfl
  rw [accInStep, hl, storedPayload_payloadByte hp hp29, ← List.cons_append, checksum_append_singleton, payloadByte_acc,
    hacc]

theorem payloadByte_assemblyOk (b : Byte) (hc : s.cfg.legal = true) (hd : s.dstate = .accumulatingPayload)
    (h : assemblyOk s) : assemblyOk (payloadByte b s) := by
  obtain ⟨hmax, hp, hacc⟩ := (assemblyOk_accumulating hd).1 h
  obtain ⟨-, -, hp29, -⟩ := (legal_iff s.cfg).1 hc
  have hptr := ptr_succ_toNat hp
  have hacc' := payloadByte_accInStep b hp (hmax.trans hp29) hacc
  by_cases hlast : s.ptr + 1#5 = s.plen
  · exact (assemblyOk_awaitingChecksum (.inl (by simp [hlast]))).2 ⟨Nat.one_le_of_lt hp, hmax, hlast, hacc'⟩
  · refine (assemblyOk_accumulating (by simp [hlast, hd])).2 ⟨hmax, ?_, hacc'⟩
    have hne : s.ptr.toNat + 1 ≠ s.plen.toNat := fun h => hlast (BitVec.eq_of_toNat_eq (hptr.trans h))
    rw [payloadByte_ptr, payloadByte_plen, hptr]
    omega

theorem checksumLow_assemblyOk (b : Byte) (hd : s.dstate = .awaitingChecksumLow) (h : assemblyOk s) :
    assemblyOk (checksumLow b s) :=
  have hwhole : payloadWhole s := (assemblyOk_awaitingChecksum (.inl hd)).1 h
  (assemblyOk_awaitingChecksum (.inr (checksumLow_dstate s b))).2 hwhole

theorem perState_assemblyOk (b : Byte) (h : Inv s) : assemblyOk (perState b s) := by
  obtain ⟨⟨hc, -⟩, ha⟩ := h
  rcases perState_cases b s with ⟨-, hb, h⟩ | ⟨-, -, h⟩ | ⟨hd, h⟩ | ⟨hd, h⟩ | ⟨-, h⟩ | ⟨-, h⟩ <;> rw [h]
  · exact lengthAccept_assemblyOk hc hb
  · exact assemblyOk_of_idle (.inr rfl)
  · exact payloadByte_assemblyOk b hc hd ha
  · exact checksumLow_assemblyOk b hd ha
  · exact assemblyOk_of_idle (.inr rfl)
  · exact ha

/-! ### Every instruction -/

theorem KeepsHostSide.registryOk (h : KeepsHostSide s u) (hs : registryOk s) : registryOk u := by
  simpa only [Machine.registryOk, h.cfg, h.sensorCount] using hs

theorem Effect.registryOk (h : Effect s u) (hs : registryOk s) : registryOk u := by
  cases h with
  | received b t => exact (receive_keepsHostSide b t s).registryOk hs
  | outputs h => exact h.keepsHostSide.registryOk hs
  | answered h r => exact (h.keepsHostSide.registryOk hs :)
  | registered ty r h => exact ⟨by simpa using hs.1, by simpa using h⟩
  | valueSet slot v _ _ => simpa [Machine.registryOk] using hs

theorem Effect.assemblyOk (h : Effect s u) (hs : Inv s) : assemblyOk u := by
  cases h with
  | received b t => exact perState_assemblyOk b (gapRule_inv t hs)
  | outputs h => exact h.keepsAssembly.assemblyOk hs.assembly
  | answered h r => exact (h.returnResult_keepsAssembly r).assemblyOk hs.assembly
  | registered ty r _ => exact (appendSensor_keepsAssembly ty s).assemblyOk hs.assembly
  | valueSet slot v _ _ => exact (writeSensorValue_keepsAssembly slot v s).assemblyOk hs.assembly

/-- Every instruction with a next state keeps the invariant. -/
theorem exec_inv (i : Instr) (hs : Inv s) (h : exec i s = .next u) : Inv u := by
  rcases init_or_effect i h with ⟨en, t, rfl⟩ | heff
  · cases h
    exact ⟨⟨hs.legal, Nat.zero_le _⟩, assemblyOk_of_idle (.inr rfl)⟩
  · exact ⟨heff.registryOk hs.1, heff.assemblyOk hs⟩

/-- Every effect keeps the registered sensors and their types (R29, R30). -/
theorem Effect.registered_stay (h : Effect s u) : s.sensorCount ≤ u.sensorCount ∧
    ∀ slot, 1 ≤ slot → slot ≤ s.sensorCount → (readSensor slot u).type = (readSensor slot s).type := by
  have hkeep : ∀ {x : State}, KeepsHostSide s x → s.sensorCount ≤ x.sensorCount ∧
      ∀ slot, 1 ≤ slot → slot ≤ s.sensorCount → (readSensor slot x).type = (readSensor slot s).type :=
    fun k => ⟨k.sensorCount.ge, fun slot _ _ => congrArg Sensor.type (readSensor_congr k.sens slot)⟩
  cases h with
  | received b t => exact hkeep (receive_keepsHostSide b t s)
  | outputs h => exact hkeep h.keepsHostSide
  | answered h r => exact (hkeep h.keepsHostSide :)
  | registered ty r _ =>
    refine ⟨by simp, fun slot _ hle => congrArg Sensor.type ?_⟩
    rw [readSensor_congr (returnResult_sens _ r)]
    exact readSensor_appendSensor_of_ne ty s (Nat.ne_of_lt (Nat.lt_succ_of_le hle))
  | valueSet slot v _ _ =>
    exact ⟨(writeSensorValue_sensorCount slot v s).ge, fun m _ _ => readSensor_writeSensorValue_type slot m v s⟩

/-! ### Before the first INIT (R39) -/

/-- The instructions that an event word can decode to (R90, R91). -/
theorem decodeEvent_cases {e : EventWord} {i : Instr} (h : decodeEvent e = .ok i) :
    (∃ en t, i = .init en t) ∨ (∃ b t, i = .rxByte b t) ∨ (∃ n, i = .readChannel n) ∨ (∃ ty, i = .registerSensor ty) ∨
      (∃ slot v, i = .setSensorValue slot v) ∨ (∃ k, i = .readCounter k) ∨ (∃ x, i = .reservedOp110 x) ∨
      ∃ x, i = .reservedOp111 x := by
  dsimp only [decodeEvent] at h
  split_ifs at h <;> cases h
  · exact .inl ⟨_, _, rfl⟩
  · exact .inr (.inl ⟨_, _, rfl⟩)
  · exact .inr (.inr (.inl ⟨_, rfl⟩))
  · exact .inr (.inr (.inr (.inl ⟨_, rfl⟩)))
  · exact .inr (.inr (.inr (.inr (.inl ⟨_, _, rfl⟩))))
  · exact .inr (.inr (.inr (.inr (.inr (.inl ⟨_, rfl⟩)))))
  · exact .inr (.inr (.inr (.inr (.inr (.inr (.inl ⟨_, rfl⟩))))))
  · exact .inr (.inr (.inr (.inr (.inr (.inr (.inr ⟨_, rfl⟩))))))

theorem readCounter_of_not_initDone (k : Byte) (hs : s.initDone = false) :
    exec (.readCounter k) s = .refused .beforeInit := by
  simp only [exec, execReadCounter]
  split
  · exact afterInit_of_not_initDone _ _ hs
  · rw [hs]
    rfl

/-- Before the first INIT every event's instruction but INIT is refused. -/
theorem exec_refused_of_not_initDone {e : EventWord} {i : Instr} (hs : s.initDone = false) (hd : decodeEvent e = .ok i)
    (hi : ∀ en t, i ≠ .init en t) : ∃ r, exec i s = .refused r := by
  rcases decodeEvent_cases hd with ⟨en, t, rfl⟩ | ⟨b, t, rfl⟩ | ⟨n, rfl⟩ | ⟨ty, rfl⟩ | ⟨slot, v, rfl⟩ | ⟨k, rfl⟩ |
    ⟨x, rfl⟩ | ⟨x, rfl⟩
  · exact absurd rfl (hi en t)
  · exact ⟨_, afterInit_of_not_initDone _ _ hs⟩
  · exact ⟨_, afterInit_of_not_initDone _ _ hs⟩
  · exact ⟨_, afterInit_of_not_initDone _ _ hs⟩
  · exact ⟨_, afterInit_of_not_initDone _ _ hs⟩
  · exact ⟨_, readCounter_of_not_initDone k hs⟩
  · exact ⟨_, rfl⟩
  · exact ⟨_, rfl⟩

/-! ### The step on an event without a meaning, and with no event (R91, R238) -/

theorem step_of_undecodable {e : EventWord} {rest : List EventWord} {r : Reject} (hc : s.cfg.legal = true)
    (he : s.events = e :: rest) (hd : decodeEvent e = .error r) : step s = .refused (.undecodable r) := by
  simp only [step, nextEvent, hc, he, hd, if_true]

theorem step_of_idle (hc : s.cfg.legal = true) (he : s.events = []) : step s = .next s := by
  simp only [step, nextEvent, hc, he, if_true]

end Sys2Proof.Machine
end

section
/-!
SUPPORT. Noninterference: the public view under each operation, what two agreeing states read alike, and that every
instruction takes agreeing states to agreeing outcomes (spec/10_state.md R36, R37).
-/

namespace Sys2Proof.Machine

/-! ### The public view under the operations that read nothing hidden -/

section PublicView

variable (s : State)

@[simp] theorem publicView_observe (o : Observation) : publicView (observe o s) = observe o (publicView s) := rfl
@[simp] theorem publicView_returnResult (r : HostResult) :
    publicView (returnResult r s) = returnResult r (publicView s) := rfl
@[simp] theorem publicView_sendReply (a : Nibble) (sub : Byte) (data : List Byte) :
    publicView (sendReply a sub data s) = sendReply a sub data (publicView s) := rfl
@[simp] theorem publicView_setChannels (data : List Byte) :
    publicView (setChannels data s) = setChannels data (publicView s) := rfl
@[simp] theorem publicView_countValueReply : publicView (countValueReply s) = countValueReply (publicView s) := rfl
@[simp] theorem publicView_enterDiscarding : publicView (enterDiscarding s) = enterDiscarding (publicView s) := rfl
@[simp] theorem publicView_lengthReject (b : Byte) :
    publicView (lengthReject b s) = lengthReject b (publicView s) := rfl

@[simp] theorem publicView_countPoll (scopes : List PollCountScope) :
    publicView (countPoll scopes s) = countPoll scopes (publicView s) := apply_ite publicView _ _ _

@[simp] theorem publicView_resynchronise : publicView (resynchronise s) = resynchronise (publicView s) := by
  cases hd : s.dstate <;> simp [publicView, resynchronise, holdsPartialFrame, observe, hd]

@[simp] theorem publicView_gapRule (t : Millis) : publicView (gapRule t s) = gapRule t (publicView s) := by
  cases hgap : gapExceeded t s with
  | true =>
    rw [gapRule_of_gap t s hgap, gapRule_of_gap t (publicView s) hgap, ← publicView_resynchronise]
    rfl
  | false =>
    rw [gapRule_of_no_gap t s hgap, gapRule_of_no_gap t (publicView s) hgap]
    rfl

/-! ### The public view under the operations that write what is hidden -/

theorem publicView_lengthAccept (b : Byte) :
    publicView (lengthAccept b s) = { publicView s with dstate := .accumulatingPayload } := rfl

theorem publicView_payloadByte (b : Byte) :
    publicView (payloadByte b s) =
      { publicView s with dstate := if s.ptr + 1#5 = s.plen then .awaitingChecksumLow else s.dstate } := rfl

theorem publicView_checksumLow (b : Byte) :
    publicView (checksumLow b s) = { publicView s with dstate := .awaitingChecksumHigh } := rfl

@[simp] theorem publicView_writeSensor (slot : Nat) (e : Sensor) :
    publicView (writeSensor slot e s) = publicView s := by
  unfold writeSensor
  split <;> rfl

theorem publicView_appendSensor (ty : Byte) :
    publicView (appendSensor ty s) = { publicView s with sensorCount := s.sensorCount + 1 } :=
  publicView_writeSensor _ _ _

theorem publicView_writeSensorValue (slot : Nat) (v : Half) :
    publicView (writeSensorValue slot v s) = publicView s := publicView_writeSensor s _ _

end PublicView

variable {s₁ s₂ u₁ u₂ : State}

/-! ### What agreeing states have alike -/

namespace Agree

theorem view (h : Agree s₁ s₂) : publicView s₁ = publicView s₂ := h.1
theorem frame (h : Agree s₁ s₂) : sameFrame s₁ s₂ := h.2.1
theorem registry (h : Agree s₁ s₂) : sameRegistry s₁ s₂ := h.2.2

theorem cfg (h : Agree s₁ s₂) : s₁.cfg = s₂.cfg := (congrArg State.cfg h.view :)
theorem events (h : Agree s₁ s₂) : s₁.events = s₂.events := (congrArg State.events h.view :)
theorem initDone (h : Agree s₁ s₂) : s₁.initDone = s₂.initDone := (congrArg State.initDone h.view :)
theorem dstate (h : Agree s₁ s₂) : s₁.dstate = s₂.dstate := (congrArg State.dstate h.view :)
theorem sensorCount (h : Agree s₁ s₂) : s₁.sensorCount = s₂.sensorCount := (congrArg State.sensorCount h.view :)
theorem telemetryEnable (h : Agree s₁ s₂) : s₁.telemetryEnable = s₂.telemetryEnable :=
  (congrArg State.telemetryEnable h.view :)

theorem readCnt (h : Agree s₁ s₂) (k : Nat) : readCnt k s₁ = readCnt k s₂ := (congrArg (Machine.readCnt k) h.view :)
theorem readCh (h : Agree s₁ s₂) (k : Nat) : readCh k s₁ = readCh k s₂ := (congrArg (Machine.readCh k) h.view :)

theorem pollDispatched (h : Agree s₁ s₂) (a : Nibble) : pollDispatched a s₁ = pollDispatched a s₂ :=
  (congrArg (Machine.pollDispatched a) h.view :)

/-- A dispatched poll is of a registered slot, whose entry the two states have alike. -/
theorem readSensor_of_dispatched (h : Agree s₁ s₂) {a : Nibble} (ha : Machine.pollDispatched a s₁ = true) :
    readSensor a.toNat s₁ = readSensor a.toNat s₂ := by
  obtain ⟨-, hpos, hle⟩ := (pollDispatched_iff a s₁).1 ha
  exact h.registry a.toNat hpos hle

end Agree

/-! ### The same frame, in each decoder state -/

theorem sameFrame_of_idle (h : s₁.dstate = .awaitingLength ∨ s₁.dstate = .discarding) : sameFrame s₁ s₂ := by
  rcases h with h | h <;> simp only [sameFrame, h]

theorem sameFrame_accumulating (h : s₁.dstate = .accumulatingPayload) : sameFrame s₁ s₂ ↔
    s₁.plen = s₂.plen ∧ s₁.ptr = s₂.ptr ∧ s₁.acc = s₂.acc ∧ ∀ k, k < s₁.ptr.toNat → readBuf k s₁ = readBuf k s₂ := by
  simp only [sameFrame, h]

theorem sameFrame_awaitingLow (h : s₁.dstate = .awaitingChecksumLow) : sameFrame s₁ s₂ ↔
    s₁.plen = s₂.plen ∧ s₁.acc = s₂.acc ∧ ∀ k, k < s₁.plen.toNat → readBuf k s₁ = readBuf k s₂ := by
  simp only [sameFrame, h]

theorem sameFrame_awaitingHigh (h : s₁.dstate = .awaitingChecksumHigh) : sameFrame s₁ s₂ ↔
    s₁.plen = s₂.plen ∧ s₁.acc = s₂.acc ∧ s₁.rxLo = s₂.rxLo ∧
      ∀ k, k < s₁.plen.toNat → readBuf k s₁ = readBuf k s₂ := by
  simp only [sameFrame, h]

theorem sameFrame_congr (k₁ : KeepsAssembly s₁ u₁) (k₂ : KeepsAssembly s₂ u₂) (h : sameFrame s₁ s₂) :
    sameFrame u₁ u₂ := by
  simpa only [sameFrame, readBuf, k₁.dstate, k₁.plen, k₁.ptr, k₁.acc, k₁.rxLo, k₁.buf, k₂.plen, k₂.ptr, k₂.acc,
    k₂.rxLo, k₂.buf] using h

theorem sameRegistry_congr (k₁ : KeepsRegistry s₁ u₁) (k₂ : KeepsRegistry s₂ u₂) (h : sameRegistry s₁ s₂) :
    sameRegistry u₁ u₂ := by
  intro slot hpos hle
  rw [readSensor_congr k₁.sens, readSensor_congr k₂.sens]
  exact h slot hpos (k₁.sensorCount ▸ hle)

/-- Two steps that keep the hidden content and agree on the rest keep agreement. -/
theorem Agree.of_keeps (h : Agree s₁ s₂) (hview : publicView u₁ = publicView u₂) (ka₁ : KeepsAssembly s₁ u₁)
    (ka₂ : KeepsAssembly s₂ u₂) (kr₁ : KeepsRegistry s₁ u₁) (kr₂ : KeepsRegistry s₂ u₂) : Agree u₁ u₂ :=
  ⟨hview, sameFrame_congr ka₁ ka₂ h.frame, sameRegistry_congr kr₁ kr₂ h.registry⟩

theorem Agree.of_writesOutputsOnly (h : Agree s₁ s₂) (hview : publicView u₁ = publicView u₂)
    (h₁ : WritesOutputsOnly s₁ u₁) (h₂ : WritesOutputsOnly s₂ u₂) : Agree u₁ u₂ :=
  h.of_keeps hview h₁.keepsAssembly h₂.keepsAssembly h₁.keepsHostSide.keepsRegistry h₂.keepsHostSide.keepsRegistry

theorem Agree.observe (h : Agree s₁ s₂) (o : Observation) : Agree (observe o s₁) (observe o s₂) :=
  h.of_writesOutputsOnly (by rw [publicView_observe, publicView_observe, h.view]) (observe_writesOutputsOnly o s₁)
    (observe_writesOutputsOnly o s₂)

theorem Agree.returnResult (h : Agree s₁ s₂) (r : HostResult) : Agree (returnResult r s₁) (returnResult r s₂) :=
  h.of_keeps (by rw [publicView_returnResult, publicView_returnResult, h.view]) ⟨rfl, rfl, rfl, rfl, rfl, rfl, rfl⟩
    ⟨rfl, rfl, rfl, rfl, rfl, rfl, rfl⟩ ⟨rfl, rfl⟩ ⟨rfl, rfl⟩

theorem Agree.sendReply (h : Agree s₁ s₂) (a : Nibble) (sub : Byte) (data : List Byte) :
    Agree (sendReply a sub data s₁) (sendReply a sub data s₂) :=
  h.of_writesOutputsOnly (by rw [publicView_sendReply, publicView_sendReply, h.view])
    (sendReply_writesOutputsOnly a sub data s₁) (sendReply_writesOutputsOnly a sub data s₂)

theorem Agree.countPoll (h : Agree s₁ s₂) (scopes : List PollCountScope) :
    Agree (countPoll scopes s₁) (countPoll scopes s₂) :=
  h.of_writesOutputsOnly (by rw [publicView_countPoll, publicView_countPoll, h.view])
    (countPoll_writesOutputsOnly scopes s₁) (countPoll_writesOutputsOnly scopes s₂)

theorem Agree.countValueReply (h : Agree s₁ s₂) : Agree (countValueReply s₁) (countValueReply s₂) :=
  h.of_writesOutputsOnly (by rw [publicView_countValueReply, publicView_countValueReply, h.view])
    (countValueReply_writesOutputsOnly s₁) (countValueReply_writesOutputsOnly s₂)

theorem Agree.setChannels (h : Agree s₁ s₂) (data : List Byte) : Agree (setChannels data s₁) (setChannels data s₂) :=
  h.of_writesOutputsOnly (by rw [publicView_setChannels, publicView_setChannels, h.view])
    (runFrameOp_writesOutputsOnly (.setChannels data) s₁) (runFrameOp_writesOutputsOnly (.setChannels data) s₂)

/-! ### A validated frame's operation (R77, R106) -/

/-- A poll whose answers agree where it is dispatched, and that is ignored where it is not. -/
theorem Agree.ite_dispatched (h : Agree s₁ s₂) (a : Nibble) (cmd : Byte) {answer : State → State}
    (hans : Machine.pollDispatched a s₁ = true → Agree (answer s₁) (answer s₂)) :
    Agree (if Machine.pollDispatched a s₁ then answer s₁ else ignoreFrame cmd s₁)
      (if Machine.pollDispatched a s₂ then answer s₂ else ignoreFrame cmd s₂) := by
  rw [← h.pollDispatched a]
  split
  next ha => exact hans ha
  next => exact h.observe _

theorem Agree.answerDiscover (h : Agree s₁ s₂) (a : Nibble) : Agree (answerDiscover a s₁) (answerDiscover a s₂) :=
  ((h.countPoll _).sendReply _ _ _).observe _

theorem Agree.answerType (h : Agree s₁ s₂) {a : Nibble} (ha : Machine.pollDispatched a s₁ = true) :
    Agree (answerType a s₁) (answerType a s₂) := by
  rw [Machine.answerType, Machine.answerType, h.readSensor_of_dispatched ha]
  exact ((h.countPoll _).sendReply _ _ _).observe _

theorem Agree.answerValue (h : Agree s₁ s₂) {a : Nibble} (ha : Machine.pollDispatched a s₁ = true) :
    Agree (answerValue a s₁) (answerValue a s₂) := by
  rw [Machine.answerValue, Machine.answerValue, h.readSensor_of_dispatched ha]
  exact ((h.countValueReply.countPoll _).sendReply _ _ _).observe _

theorem Agree.runFrameOp (h : Agree s₁ s₂) (op : FrameOp) : Agree (runFrameOp op s₁) (runFrameOp op s₂) := by
  cases op with
  | setChannels data => exact h.setChannels data
  | pollDiscover a => exact h.ite_dispatched a _ fun _ => h.answerDiscover a
  | pollType a => exact h.ite_dispatched a _ h.answerType
  | pollValue a => exact h.ite_dispatched a _ h.answerValue
  | pollUnknown cmd => exact h.ite_dispatched _ cmd fun _ => h.observe _
  | ignored cmd data => exact h.observe _

/-! ### A received byte (R100 to R110) -/

theorem Agree.gapRule (h : Agree s₁ s₂) (t : Millis) : Agree (gapRule t s₁) (gapRule t s₂) := by
  have hgap : gapExceeded t s₁ = gapExceeded t s₂ := (congrArg (gapExceeded t) h.view :)
  refine ⟨by rw [publicView_gapRule, publicView_gapRule, h.view], ?_, ?_⟩
  · cases hg : gapExceeded t s₁ with
    | true => exact sameFrame_of_idle (.inl (by simp [gapRule_dstate, hg]))
    | false =>
      rw [gapRule_of_no_gap t s₁ hg, gapRule_of_no_gap t s₂ (hgap ▸ hg)]
      exact h.frame
  · exact sameRegistry_congr (gapRule_keepsHostSide t s₁).keepsRegistry (gapRule_keepsHostSide t s₂).keepsRegistry
      h.registry

/-- Buffers that are read alike below `n` have the same first `n` bytes. -/
theorem take_buf_eq {n : Nat} (h : ∀ k, k < n → readBuf k s₁ = readBuf k s₂) :
    s₁.buf.toList.take n = s₂.buf.toList.take n := by
  apply List.ext_getElem?
  intro k
  simp only [List.getElem?_take, Vector.getElem?_toList]
  split
  next hk =>
    have hread := h k hk
    by_cases h29 : k < 29
    · simpa [readBuf, h29] using hread
    · simp [h29]
  next => rfl

/-- Agreeing states that hold a whole payload select the same operation for it. -/
theorem frameOp_eq (h : Agree s₁ s₂) (hplen : s₁.plen = s₂.plen) (hpos : 1 ≤ s₁.plen.toNat)
    (hbuf : ∀ k, k < s₁.plen.toNat → readBuf k s₁ = readBuf k s₂) : frameOp s₁ = frameOp s₂ := by
  have hcmd : frameCommand s₁ = frameCommand s₂ := hbuf 0 hpos
  have hdata : frameData s₁ = frameData s₂ := by rw [frameData, frameData, take_buf_eq hbuf, hplen]
  rw [frameOp, frameOp, hcmd, hdata, hplen, h.telemetryEnable, h.sensorCount]

/-- The validator decides alike, and runs the same operation or records the same mismatch. -/
theorem publicView_checksumHigh (b : Byte) (hinv : Inv s₁) (h : Agree s₁ s₂) (hd : s₁.dstate = .awaitingChecksumHigh) :
    publicView (checksumHigh b s₁) = publicView (checksumHigh b s₂) := by
  obtain ⟨hplen, hacc, hrx, hbuf⟩ := (sameFrame_awaitingHigh hd).1 h.frame
  obtain ⟨hpos, -⟩ := (assemblyOk_awaitingChecksum (.inr hd)).1 hinv.assembly
  have hrecv : receivedChecksum b s₁ = receivedChecksum b s₂ := by rw [receivedChecksum, receivedChecksum, hrx]
  have hmatch : checksumMatch b s₁ = checksumMatch b s₂ := by rw [checksumMatch, checksumMatch, hrecv, hacc]
  rw [checksumHigh, checksumHigh, publicView_enterDiscarding, publicView_enterDiscarding, hmatch]
  split
  · rw [dispatchFrame_eq_runFrameOp, dispatchFrame_eq_runFrameOp, frameOp_eq h hplen hpos hbuf, (h.runFrameOp _).1]
  · rw [hrecv, hacc, (h.observe _).1]

/-- A payload byte is stored at the same place, so the payload so far stays the same. -/
theorem readBuf_payloadByte_eq (b : Byte) (hptr : s₁.ptr = s₂.ptr)
    (hbuf : ∀ k, k < s₁.ptr.toNat → readBuf k s₁ = readBuf k s₂) {k : Nat} (hk : k < s₁.ptr.toNat + 1) (hk29 : k < 29) :
    readBuf k (payloadByte b s₁) = readBuf k (payloadByte b s₂) := by
  have hwrite : ∀ s, readBuf k (payloadByte b s) = readBuf k (writeBuf s.ptr.toNat b s) := fun _ => rfl
  rw [hwrite, hwrite, readBuf_writeBuf, readBuf_writeBuf, ← hptr]
  by_cases hlast : s₁.ptr.toNat = k
  · rw [if_pos ⟨hlast, hk29⟩, if_pos ⟨hlast, hk29⟩]
  · rw [if_neg fun h => hlast h.1, if_neg fun h => hlast h.1]
    exact hbuf k (by omega)

theorem Agree.payloadByte_view_frame (b : Byte) (hinv : Inv s₁) (h : Agree s₁ s₂)
    (hd : s₁.dstate = .accumulatingPayload) :
    publicView (payloadByte b s₁) = publicView (payloadByte b s₂) ∧
      sameFrame (payloadByte b s₁) (payloadByte b s₂) := by
  obtain ⟨hplen, hptr, hacc, hbuf⟩ := (sameFrame_accumulating hd).1 h.frame
  obtain ⟨hmax, hp, -⟩ := (assemblyOk_accumulating hd).1 hinv.assembly
  obtain ⟨-, -, hp29, -⟩ := (legal_iff s₁.cfg).1 hinv.legal
  have hsucc := ptr_succ_toNat hp
  have hplen' : (payloadByte b s₁).plen = (payloadByte b s₂).plen := hplen
  have hptr' : (payloadByte b s₁).ptr = (payloadByte b s₂).ptr := by rw [payloadByte_ptr, payloadByte_ptr, hptr]
  have hacc' : (payloadByte b s₁).acc = (payloadByte b s₂).acc := by rw [payloadByte_acc, payloadByte_acc, hacc]
  have hbuf' : ∀ k, k < s₁.ptr.toNat + 1 → readBuf k (payloadByte b s₁) = readBuf k (payloadByte b s₂) :=
    fun k hk => readBuf_payloadByte_eq b hptr hbuf hk (by omega)
  refine ⟨by rw [publicView_payloadByte, publicView_payloadByte, h.view, hptr, hplen, h.dstate], ?_⟩
  by_cases hlast : s₁.ptr + 1#5 = s₁.plen
  · refine (sameFrame_awaitingLow (by simp [hlast])).2 ⟨hplen', hacc', fun k hk => hbuf' k ?_⟩
    rwa [payloadByte_plen, ← hlast, hsucc] at hk
  · refine (sameFrame_accumulating (by simp [hlast, hd])).2 ⟨hplen', hptr', hacc', fun k hk => hbuf' k ?_⟩
    rwa [payloadByte_ptr, hsucc] at hk

/-- The rule that the decoder state selects shows the same, and leaves the same frame. -/
theorem Agree.perState_view_frame (b : Byte) (hinv : Inv s₁) (h : Agree s₁ s₂) :
    publicView (perState b s₁) = publicView (perState b s₂) ∧ sameFrame (perState b s₁) (perState b s₂) := by
  have hrule : perState b s₂ = rowRule (selectRx s₁.cfg s₁.dstate b) b s₂ := by rw [h.cfg, h.dstate]; rfl
  rw [hrule, perState]
  cases hd : s₁.dstate with
  | awaitingLength =>
    rw [selectRx]
    split
    · refine ⟨by rw [rowRule, rowRule, publicView_lengthAccept, publicView_lengthAccept, h.view], ?_⟩
      have hplen : (lengthAccept b s₁).plen = (lengthAccept b s₂).plen := by
        rw [lengthAccept_plen, lengthAccept_plen, h.cfg]
      exact (sameFrame_accumulating (lengthAccept_dstate s₁ b)).2
        ⟨hplen, rfl, rfl, fun k hk => absurd hk (Nat.not_lt_zero k)⟩
    · exact ⟨by rw [rowRule, rowRule, publicView_lengthReject, publicView_lengthReject, h.view],
        sameFrame_of_idle (.inr rfl)⟩
  | accumulatingPayload => exact h.payloadByte_view_frame b hinv hd
  | awaitingChecksumLow =>
    obtain ⟨hplen, hacc, hbuf⟩ := (sameFrame_awaitingLow hd).1 h.frame
    refine ⟨?_, (sameFrame_awaitingHigh (checksumLow_dstate s₁ b)).2 ⟨hplen, hacc, rfl, hbuf⟩⟩
    rw [selectRx, rowRule, rowRule, publicView_checksumLow, publicView_checksumLow, h.view]
  | awaitingChecksumHigh => exact ⟨publicView_checksumHigh b hinv h hd, sameFrame_of_idle (.inr rfl)⟩
  | discarding => exact ⟨h.view, h.frame⟩

theorem Agree.perState (b : Byte) (hinv : Inv s₁) (h : Agree s₁ s₂) : Agree (perState b s₁) (perState b s₂) := by
  obtain ⟨hview, hframe⟩ := h.perState_view_frame b hinv
  exact ⟨hview, hframe,
    sameRegistry_congr (perState_keepsHostSide b s₁).keepsRegistry (perState_keepsHostSide b s₂).keepsRegistry
      h.registry⟩

/-! ### The host operations (R190 to R195) -/

/-- After INIT only the ports, the parameters and the model's own fields of the earlier state are left (R38). -/
theorem agree_of_execInit {en : Bool} {t : Millis} (hcfg : s₁.cfg = s₂.cfg) (hev : s₁.events = s₂.events)
    (htx : s₁.tx = s₂.tx) (hres : s₁.results = s₂.results) (hout : s₁.outcomes = s₂.outcomes)
    (hg : s₁.guards = s₂.guards) (hfree : s₁.freeDraws = s₂.freeDraws) (h₁ : execInit en t s₁ = .next u₁)
    (h₂ : execInit en t s₂ = .next u₂) : Agree u₁ u₂ := by
  cases h₁
  cases h₂
  refine ⟨by simp only [publicView, freeAfterInit, hcfg, hev, htx, hres, hout, hg, hfree],
    sameFrame_of_idle (.inr rfl), fun slot hpos hle => ?_⟩
  exact absurd (hpos.trans hle) (Nat.not_succ_le_zero 0)

/-- A registration below capacity writes the same entry to the same slot. -/
theorem Agree.appendSensor (h : Agree s₁ s₂) (hinv : Inv s₁) (hcap : s₁.sensorCount < s₁.cfg.sensorCapacity)
    (ty : Byte) : Agree (appendSensor ty s₁) (appendSensor ty s₂) := by
  obtain ⟨⟨h15, -⟩, -⟩ := (legal_iff s₁.cfg).1 hinv.legal
  refine ⟨by rw [publicView_appendSensor, publicView_appendSensor, h.view, h.sensorCount],
    sameFrame_congr (appendSensor_keepsAssembly ty s₁) (appendSensor_keepsAssembly ty s₂) h.frame,
    fun slot hpos hle => ?_⟩
  rw [appendSensor_sensorCount] at hle
  by_cases hslot : slot = s₁.sensorCount + 1
  · rw [Machine.appendSensor, Machine.appendSensor, ← h.sensorCount,
      readSensor_writeSensor _ _ _ _ (by omega) (by omega), readSensor_writeSensor _ _ _ _ (by omega) (by omega),
      if_pos hslot.symm, if_pos hslot.symm]
  · rw [readSensor_appendSensor_of_ne ty s₁ hslot, readSensor_appendSensor_of_ne ty s₂ (h.sensorCount ▸ hslot)]
    exact h.registry slot hpos (by omega)

theorem Agree.writeSensorValue (h : Agree s₁ s₂) (hinv : Inv s₁) {slot : Nat} (hpos : 1 ≤ slot)
    (hle : slot ≤ s₁.sensorCount) (v : Half) : Agree (writeSensorValue slot v s₁) (writeSensorValue slot v s₂) := by
  obtain ⟨⟨h15, -⟩, -⟩ := (legal_iff s₁.cfg).1 hinv.legal
  have hslot15 : slot ≤ 15 := (hle.trans hinv.count_le).trans h15
  refine ⟨by rw [publicView_writeSensorValue, publicView_writeSensorValue, h.view],
    sameFrame_congr (writeSensorValue_keepsAssembly slot v s₁) (writeSensorValue_keepsAssembly slot v s₂) h.frame,
    fun m hm hmle => ?_⟩
  rw [writeSensorValue_sensorCount] at hmle
  rw [Machine.writeSensorValue, Machine.writeSensorValue, h.registry slot hpos hle,
    readSensor_writeSensor _ _ _ _ hpos hslot15, readSensor_writeSensor _ _ _ _ hpos hslot15, h.registry m hm hmle]

/-! ### Outcomes -/

/-- Two steps that go to agreeing states, or are refused for the same reason. -/
def OutcomesAgree (o₁ o₂ : Host.Outcome State Fault Refusal) : Prop :=
  (∃ u₁ u₂, o₁ = .next u₁ ∧ o₂ = .next u₂ ∧ Agree u₁ u₂) ∨ ∃ r, o₁ = .refused r ∧ o₂ = .refused r

theorem OutcomesAgree.next (h : Agree u₁ u₂) : OutcomesAgree (.next u₁) (.next u₂) := .inl ⟨u₁, u₂, rfl, rfl, h⟩

theorem OutcomesAgree.refused (r : Refusal) : OutcomesAgree (.refused r) (.refused r) := .inr ⟨r, rfl, rfl⟩

theorem Agree.afterInit (h : Agree s₁ s₂) (hu : Agree u₁ u₂) : OutcomesAgree (afterInit s₁ u₁) (afterInit s₂ u₂) := by
  rw [Machine.afterInit, Machine.afterInit, h.initDone]
  split
  · exact .next hu
  · exact .refused _

theorem Agree.execFrameOp (h : Agree s₁ s₂) (op : FrameOp) :
    OutcomesAgree (exec op.toInstr s₁) (exec op.toInstr s₂) := by
  rw [exec_frameOp, exec_frameOp]
  exact .next (h.runFrameOp op)

theorem Agree.execRxByte (hinv : Inv s₁) (h : Agree s₁ s₂) (b : Byte) (t : Millis) :
    OutcomesAgree (execRxByte b t s₁) (execRxByte b t s₂) :=
  h.afterInit ((h.gapRule t).perState b (gapRule_inv t hinv))

theorem Agree.execRxRow (hinv : Inv s₁) (h : Agree s₁ s₂) (r : RxRow) (b : Byte) (t : Millis) :
    OutcomesAgree (exec (r.toInstr b t) s₁) (exec (r.toInstr b t) s₂) := by
  rw [exec_rxRow, exec_rxRow]
  exact h.execRxByte hinv b t

theorem Agree.execInit (h : Agree s₁ s₂) (en : Bool) (t : Millis) :
    OutcomesAgree (execInit en t s₁) (execInit en t s₂) :=
  .next (agree_of_execInit h.cfg h.events (congrArg State.tx h.view :) (congrArg State.results h.view :)
    (congrArg State.outcomes h.view :) (congrArg State.guards h.view :) (congrArg State.freeDraws h.view :) rfl rfl)

theorem Agree.execReadChannel (h : Agree s₁ s₂) (n : Byte) :
    OutcomesAgree (execReadChannel n s₁) (execReadChannel n s₂) := by
  rw [Machine.execReadChannel, Machine.execReadChannel, h.cfg, h.readCh]
  exact h.afterInit (h.returnResult _)

theorem Agree.execRegisterSensor (hinv : Inv s₁) (h : Agree s₁ s₂) (ty : Byte) :
    OutcomesAgree (execRegisterSensor ty s₁) (execRegisterSensor ty s₂) := by
  have hagree : Agree
      (if s₁.sensorCount < s₁.cfg.sensorCapacity then Machine.appendSensor ty s₁
        else Machine.observe (.sensorOverflow ty) s₁)
      (if s₂.sensorCount < s₂.cfg.sensorCapacity then Machine.appendSensor ty s₂
        else Machine.observe (.sensorOverflow ty) s₂) := by
    rw [← h.sensorCount, ← h.cfg]
    split
    next hcap => exact h.appendSensor hinv hcap ty
    next => exact h.observe _
  simp only [Machine.execRegisterSensor, hagree.sensorCount]
  exact h.afterInit (hagree.returnResult _)

theorem Agree.execSetSensorValue (hinv : Inv s₁) (h : Agree s₁ s₂) (slot : Byte) (v : Half) :
    OutcomesAgree (execSetSensorValue slot v s₁) (execSetSensorValue slot v s₂) := by
  rw [Machine.execSetSensorValue, Machine.execSetSensorValue, ← h.sensorCount]
  refine h.afterInit ?_
  split
  next hslot => exact h.writeSensorValue hinv hslot.1 hslot.2 v
  next => exact h.observe _

theorem Agree.execReadCounter (h : Agree s₁ s₂) (k : Byte) :
    OutcomesAgree (execReadCounter k s₁) (execReadCounter k s₂) := by
  simp only [Machine.execReadCounter, h.readCnt, h.initDone]
  split
  · exact h.afterInit (h.returnResult _)
  · split <;> exact .refused _

/-- Every instruction takes agreeing states to agreeing outcomes. -/
theorem Agree.exec (hinv : Inv s₁) (h : Agree s₁ s₂) (i : Instr) : OutcomesAgree (exec i s₁) (exec i s₂) := by
  cases i with
  | setChannels data => exact h.execFrameOp (.setChannels data)
  | pollDiscover a => exact h.execFrameOp (.pollDiscover a)
  | pollType a => exact h.execFrameOp (.pollType a)
  | pollValue a => exact h.execFrameOp (.pollValue a)
  | pollUnknown cmd => exact h.execFrameOp (.pollUnknown cmd)
  | ignored cmd data => exact h.execFrameOp (.ignored cmd data)
  | replyDiscover a => exact .next (h.sendReply _ _ _)
  | replyType a ty => exact .next (h.sendReply _ _ _)
  | replyValue a v => exact .next (h.sendReply _ _ _)
  | rxLengthAccept b t => exact h.execRxRow hinv .lengthAccept b t
  | rxLengthReject b t => exact h.execRxRow hinv .lengthReject b t
  | rxPayload b t => exact h.execRxRow hinv .payload b t
  | rxChecksumLow b t => exact h.execRxRow hinv .checksumLow b t
  | rxChecksumHigh b t => exact h.execRxRow hinv .checksumHigh b t
  | rxDiscard b t => exact h.execRxRow hinv .discard b t
  | init en t => exact h.execInit en t
  | rxByte b t => exact h.execRxByte hinv b t
  | readChannel n => exact h.execReadChannel n
  | registerSensor ty => exact h.execRegisterSensor hinv ty
  | setSensorValue slot v => exact h.execSetSensorValue hinv slot v
  | readCounter k => exact h.execReadCounter k
  | reservedOp110 x => exact .refused _
  | reservedOp111 x => exact .refused _

theorem Agree.step (hinv : Inv s₁) (h : Agree s₁ s₂) : OutcomesAgree (step s₁) (step s₂) := by
  have hc₁ : s₁.cfg.legal = true := hinv.legal
  have hc₂ : s₂.cfg.legal = true := h.cfg ▸ hc₁
  cases he₁ : s₁.events with
  | nil =>
    rw [step_of_idle hc₁ he₁, step_of_idle hc₂ (h.events ▸ he₁)]
    exact .next h
  | cons e rest =>
    have he₂ : s₂.events = e :: rest := h.events ▸ he₁
    cases hd : decodeEvent e with
    | ok i =>
      rw [step_of_decoded hc₁ he₁ hd, step_of_decoded hc₂ he₂ hd]
      have htaken : Agree { s₁ with events := rest } { s₂ with events := rest } :=
        ⟨congrArg (fun s : State => { s with events := rest }) h.view, h.frame, h.registry⟩
      have hinv' : Inv { s₁ with events := rest } := hinv
      exact htaken.exec hinv' i
    | error r =>
      rw [step_of_undecodable hc₁ he₁ hd, step_of_undecodable hc₂ he₂ hd]
      exact .refused _

end Sys2Proof.Machine
end

section
/-!
PROOFS. The statements of spec/10_state.md's family.
-/

namespace Sys2Proof.Proofs

open Sys2Proof Sys2Proof.Machine

/-- Settles O53: an idle step keeps the whole state, and every instruction keeps the invariant, which does not speak of
the waiting events. -/
theorem stepKeepsTheAssemblyInvariant : Obligations.StepKeepsTheAssemblyInvariant := by
  intro s u hs h
  obtain ⟨-, ⟨-, rfl⟩ | ⟨e, rest, i, -, -, hexec⟩⟩ := step_next_cases s u h
  · exact hs
  · have htaken : Inv { s with events := rest } := hs
    exact exec_inv i htaken hexec

/-- Settles O55: the step of two agreeing states, by the event that waits in both. -/
theorem unspecifiedContentIsUnobservable : Obligations.UnspecifiedContentIsUnobservable :=
  fun _ _ hinv h => h.step hinv

/-- Settles O8: the payload bytes lower the accumulator by their sum. -/
theorem accumulatorEndsAtTheChecksum : Obligations.AccumulatorEndsAtTheChecksum := by
  intro l payload
  rw [foldl_sub_setWidth, checksum, byteSum, BitVec.sub_sub]

/-- Settles O14: an event word decodes to INIT, to an event that R39 guards, to a reserved one, or to nothing. -/
theorem eventsBeforeInitAreRefused : Obligations.EventsBeforeInitAreRefused := by
  refine fun s e rest hs he => ⟨fun hne => ?_, fun en t hc hd => ?_⟩
  · by_cases hc : s.cfg.legal = true
    · cases hd : decodeEvent e with
      | ok i =>
        rw [step_of_decoded hc he hd]
        exact exec_refused_of_not_initDone hs hd fun en t hi => hne en t (hi ▸ hd)
      | error r => exact ⟨_, step_of_undecodable hc he hd⟩
    · exact ⟨_, step_of_not_legal hc⟩
  · exact ⟨_, step_of_decoded hc he hd, rfl⟩

/-- Settles O27: the gap rule and the selected rule each keep the host's side. -/
theorem receivedBytesKeepTheHostSide : Obligations.ReceivedBytesKeepTheHostSide := by
  intro b t s u h
  obtain ⟨-, rfl⟩ := (afterInit_eq_next _ _ _).1 h
  have k := receive_keepsHostSide b t s
  exact ⟨k.sens, k.sensorCount, k.telemetryEnable, k.results, k.initDone, k.cfg, k.events⟩

/-- Settles O51, by the effects of an instruction other than INIT. -/
theorem registeredSensorsStay : Obligations.RegisteredSensorsStay := by
  intro i s u hi h
  rcases init_or_effect i h with ⟨en, t, rfl⟩ | heff
  · exact absurd rfl (hi en t)
  · exact heff.registered_stay

/-- Settles O56: what INIT leaves free is hidden, no frame is in progress and no sensor is registered. -/
theorem initForgetsTheEarlierContent : Obligations.InitForgetsTheEarlierContent :=
  fun _ _ _ _ _ _ hcfg hev htx hres hout hg hfree h₁ h₂ => agree_of_execInit hcfg hev htx hres hout hg hfree h₁ h₂

/-- Settles O42, field by field of the state that INIT goes to. -/
theorem initResetsTheBlock : Obligations.InitResetsTheBlock := by
  intro en t s
  refine ⟨_, rfl, rfl, rfl, rfl, fun i hi => ?_, rfl, rfl, rfl, rfl, rfl, rfl, rfl, rfl, rfl, rfl, rfl, rfl⟩
  simp [hi]

/-- Settles O54: R7's configuration is legal, no sensor is registered and no frame is in progress. -/
theorem resetMeetsTheAssemblyInvariant : Obligations.ResetMeetsTheAssemblyInvariant :=
  ⟨⟨standard_legal, Nat.zero_le _⟩, assemblyOk_of_idle (.inr rfl)⟩

end Sys2Proof.Proofs
end

section
/-!
SUPPORT. The encodings read backwards: the event word whose fields are given, the words that set a reserved bit, the
frame that a byte sequence decodes as, the fields of a command byte and the checksum as numbers
(spec/30_encoding.md R70 to R76, R90, R91).
-/

namespace Sys2Proof

open Sys2Proof.Machine Sys2Proof.Laws

variable {e : EventWord} {i : Instr}

/-! ### Words as their fields, the time field first (R90) -/

theorem eventWord_eq_append (e : EventWord) :
    e = e.extractLsb' 32 32 ++ e.extractLsb' 16 16 ++ e.extractLsb' 8 8 ++ e.extractLsb' 3 5 ++ e.extractLsb' 0 3 := by
  ext i hi
  grind

theorem initEvent_eq_append (e : EventWord) :
    e = e.extractLsb' 32 32 ++ e.extractLsb' 4 28 ++ BitVec.ofBool (e.getLsbD 3) ++ e.extractLsb' 0 3 := by
  ext i hi
  grind

theorem reservedEvent_eq_append (e : EventWord) : e = e.extractLsb' 3 61 ++ e.extractLsb' 0 3 := by
  ext i hi
  grind

theorem initWord_eq_append (en : Bool) (t : Millis) : initWord en t = t ++ 0#28 ++ BitVec.ofBool en ++ 0#3 := by
  ext i hi
  grind [initWord]

theorem rxWord_eq_append (b : Byte) (t : Millis) : rxWord b t = t ++ 0#16 ++ b ++ 0#5 ++ 1#3 := by
  ext i hi
  grind [rxWord]

theorem hostWord_eq_append (op : BitVec 3) (b : Byte) (h : Half) : hostWord op b h = 0#32 ++ h ++ b ++ 0#5 ++ op := by
  ext i hi
  grind [hostWord]

theorem reservedWord_eq_append (op : BitVec 3) (x : BitVec 61) : reservedWord op x = x ++ op := by
  ext i hi
  grind [reservedWord]

/-! ### The word with given fields (R90) -/

theorem eq_initWord (hop : e.extractLsb' 0 3 = 0#3) (hres : e.extractLsb' 4 28 = 0#28) :
    e = initWord (e.getLsbD 3) (e.extractLsb' 32 32) := by
  rw [initWord_eq_append, ← hop, ← hres]
  exact initEvent_eq_append e

theorem eq_rxWord (hop : e.extractLsb' 0 3 = 1#3) (hlow : e.extractLsb' 3 5 = 0#5) (hh : e.extractLsb' 16 16 = 0#16) :
    e = rxWord (e.extractLsb' 8 8) (e.extractLsb' 32 32) := by
  rw [rxWord_eq_append, ← hop, ← hlow, ← hh]
  exact eventWord_eq_append e

theorem eq_hostWord {op : BitVec 3} {h : Half} (hop : e.extractLsb' 0 3 = op) (hlow : e.extractLsb' 3 5 = 0#5)
    (hh : e.extractLsb' 16 16 = h) (ht : e.extractLsb' 32 32 = 0#32) : e = hostWord op (e.extractLsb' 8 8) h := by
  rw [hostWord_eq_append, ← hop, ← hlow, ← hh, ← ht]
  exact eventWord_eq_append e

theorem eq_reservedWord {op : BitVec 3} (hop : e.extractLsb' 0 3 = op) : e = reservedWord op (e.extractLsb' 3 61) := by
  rw [reservedWord_eq_append, ← hop]
  exact reservedEvent_eq_append e

/-- The operation that is left when the word has none of the others. -/
theorem eq_seven_of_ne {op : BitVec 3} (h0 : op ≠ 0#3) (h1 : op ≠ 1#3) (h2 : op ≠ 2#3) (h3 : op ≠ 3#3) (h4 : op ≠ 4#3)
    (h5 : op ≠ 5#3) (h6 : op ≠ 6#3) : op = 7#3 := by
  bv_omega

/-- Branch by branch of the decoder, the word is the encoder's. -/
theorem encode_of_decodeEvent (c : Config) (h : decodeEvent e = .ok i) : encode c i = .event e := by
  dsimp only [decodeEvent] at h
  split_ifs at h with h0 hres h1 hres h2 hres h3 hres h4 hres h5 hres h6 <;> cases h <;>
    refine congrArg Code.event (Eq.symm ?_)
  · exact eq_initWord h0 hres
  · obtain ⟨hlow, hh⟩ := hres
    exact eq_rxWord h1 hlow hh
  · obtain ⟨hlow, hh, ht⟩ := hres
    exact eq_hostWord h2 hlow hh ht
  · obtain ⟨hlow, hh, ht⟩ := hres
    exact eq_hostWord h3 hlow hh ht
  · obtain ⟨hlow, ht⟩ := hres
    exact eq_hostWord h4 hlow rfl ht
  · obtain ⟨hlow, hh, ht⟩ := hres
    exact eq_hostWord h5 hlow hh ht
  · exact eq_reservedWord h6
  · exact eq_reservedWord (eq_seven_of_ne h0 h1 h2 h3 h4 h5 h6)

/-! ### Reserved bits (R90, R91) -/

theorem op_eq_of_toNat_le_five : ∀ op : BitVec 3, op.toNat ≤ 5 →
    op = 0#3 ∨ op = 1#3 ∨ op = 2#3 ∨ op = 3#3 ∨ op = 4#3 ∨ op = 5#3 := by
  decide

/-- A field whose bits are all in a mask is 0 in a word that has no bit of the mask. -/
theorem field_eq_zero_of_and {m : EventWord} {k n : Nat} (h : e &&& m = 0#64)
    (hm : m.extractLsb' k n = BitVec.allOnes n) : e.extractLsb' k n = 0#n := by
  simpa [BitVec.extractLsb'_and, hm] using congrArg (BitVec.extractLsb' k n) h

/-- A word whose fixed bits cover the reserved ones, and set none of them, sets no reserved bit. -/
theorem and_reserved_eq_zero {m v r : EventWord} (h : e &&& m = v) (hm : m &&& r = r) (hv : v &&& r = 0#64) :
    e &&& r = 0#64 := by
  rw [← hm, ← BitVec.and_assoc, h, hv]

/-- The host operations with the one field `e[15:8]`: no reserved bit leaves that field alone. -/
theorem eq_hostWord_of_and {op : BitVec 3} (hop : e.extractLsb' 0 3 = op) (h : e &&& 0xFFFFFFFFFFFF00F8#64 = 0#64) :
    e = hostWord op (e.extractLsb' 8 8) 0#16 :=
  eq_hostWord hop (field_eq_zero_of_and h rfl) (field_eq_zero_of_and h rfl) (field_eq_zero_of_and h rfl)

/-- A word of an operation from 000 to 101 without a reserved bit is a word of the encoder, so it decodes. -/
theorem decodeEvent_of_no_reserved_bit (hop : (e.extractLsb' 0 3).toNat ≤ 5)
    (hres : e &&& reservedBits (e.extractLsb' 0 3) = 0#64) : ∃ i, decodeEvent e = .ok i := by
  rcases op_eq_of_toNat_le_five _ hop with h | h | h | h | h | h <;> rw [h] at hres
  · have hword := eq_initWord h (field_eq_zero_of_and hres rfl)
    exact ⟨_, (congrArg decodeEvent hword).trans (decodeEvent_initWord _ _)⟩
  · have hword := eq_rxWord h (field_eq_zero_of_and hres rfl) (field_eq_zero_of_and hres rfl)
    exact ⟨_, (congrArg decodeEvent hword).trans (decodeEvent_rxWord _ _)⟩
  · exact ⟨_, (congrArg decodeEvent (eq_hostWord_of_and h hres)).trans (decodeEvent_readChannel _)⟩
  · exact ⟨_, (congrArg decodeEvent (eq_hostWord_of_and h hres)).trans (decodeEvent_registerSensor _)⟩
  · have hword := eq_hostWord h (field_eq_zero_of_and hres rfl) rfl (field_eq_zero_of_and hres rfl)
    exact ⟨_, (congrArg decodeEvent hword).trans (decodeEvent_setSensorValue _ _)⟩
  · exact ⟨_, (congrArg decodeEvent (eq_hostWord_of_and h hres)).trans (decodeEvent_readCounter _)⟩

/-- A word of an operation from 000 to 101 that decodes sets no reserved bit. -/
theorem no_reserved_bit_of_decodeEvent (hop : (e.extractLsb' 0 3).toNat ≤ 5) (h : decodeEvent e = .ok i) :
    e &&& reservedBits (e.extractLsb' 0 3) = 0#64 := by
  have hword := encode_of_decodeEvent Config.standard h
  rcases decodeEvent_cases h with ⟨en, t, rfl⟩ | ⟨b, t, rfl⟩ | ⟨n, rfl⟩ | ⟨ty, rfl⟩ | ⟨slot, v, rfl⟩ | ⟨k, rfl⟩ |
    ⟨x, rfl⟩ | ⟨x, rfl⟩ <;> obtain rfl := Code.event.inj hword
  · rw [(initWord_fields en t).1]
    exact and_reserved_eq_zero (initWord_match en t) rfl rfl
  · rw [(rxWord_fields b t).1]
    exact and_reserved_eq_zero (rxWord_match b t) rfl rfl
  · rw [(hostWord_fields 2#3 n 0#16).1]
    exact and_reserved_eq_zero (hostWord_match 2#3 n) rfl rfl
  · rw [(hostWord_fields 3#3 ty 0#16).1]
    exact and_reserved_eq_zero (hostWord_match 3#3 ty) rfl rfl
  · rw [(hostWord_fields 4#3 slot v).1]
    exact and_reserved_eq_zero (setWord_match slot v) rfl rfl
  · rw [(hostWord_fields 5#3 k 0#16).1]
    exact and_reserved_eq_zero (hostWord_match 5#3 k) rfl rfl
  · rw [(reservedWord_fields 6#3 x).1] at hop
    exact absurd hop (by decide)
  · rw [(reservedWord_fields 7#3 x).1] at hop
    exact absurd hop (by decide)

/-! ### Frames read backwards (R70 to R73) -/

/-- The length byte of the decoder's data bytes is the one it read. -/
theorem frameLength_of_lengthAccepted {c : Config} {l : Byte} {data : List Byte} (hl : lengthAccepted c l = true)
    (hd : data.length = l.toNat - c.overhead - 1) : frameLength c data = l := by
  obtain ⟨hlo, -⟩ := (lengthAccepted_iff c l).1 hl
  apply BitVec.eq_of_toNat_eq
  rw [frameLength, BitVec.toNat_ofNat]
  omega

/-- A list of two more than `n` elements is its first `n` and the two at `n` and `n + 1`. -/
theorem eq_take_append_pair {α : Type} (d : α) {xs : List α} {n : Nat} (h : xs.length = n + 2) :
    xs = xs.take n ++ [xs[n]?.getD d, xs[n + 1]?.getD d] := by
  have h0 : n < xs.length := by omega
  have h1 : n + 1 < xs.length := by omega
  conv_lhs => rw [← List.take_append_drop n xs, List.drop_eq_getElem_cons h0, List.drop_eq_getElem_cons h1,
    List.drop_eq_nil_of_le (by omega)]
  simp [h0, h1]

/-- The bytes that decode as a frame are the frame, within the length bound (R71). -/
theorem encodeFrame_of_decodeFrame {c : Config} {bytes : List Byte} {cmd : Byte} {data : List Byte}
    (h : decodeFrame c bytes = .ok (cmd, data)) :
    bytes = encodeFrame c cmd data ∧ data.length + 1 ≤ c.maxLength - c.overhead := by
  match bytes with
  | [] => cases h
  | [_] => cases h
  | l :: cmd' :: rest =>
    simp only [decodeFrame] at h
    split_ifs at h with hlen hsum
    cases h
    obtain ⟨hl, hrest⟩ := Bool.and_eq_true_iff.1 hlen
    have hrest := beq_iff_eq.1 hrest
    have hdata : (rest.take (l.toNat - c.overhead - 1)).length = l.toNat - c.overhead - 1 := by
      rw [List.length_take, hrest]
      omega
    obtain ⟨hlo, hhi⟩ := (lengthAccepted_iff c l).1 hl
    refine ⟨?_, by omega⟩
    rw [encodeFrame, frameLength_of_lengthAccepted hl hdata, ← hsum, lo8_u16, hi8_u16]
    exact congrArg (l :: cmd :: ·) (eq_take_append_pair 0#8 hrest)

/-! ### The checksum as a number (R72) -/

theorem byteSum_toNat (bs : List Byte) : (byteSum bs).toNat = (bs.map BitVec.toNat).sum % 2 ^ 16 := by
  induction bs with
  | nil => rfl
  | cons b bs ih =>
    rw [byteSum, BitVec.toNat_add, ih, List.map_cons, List.sum_cons, BitVec.toNat_setWidth, ← Nat.add_mod]

theorem checksum_toNat (bytes : List Byte) :
    (checksum bytes).toNat = (0xFFFF - (bytes.map BitVec.toNat).sum % 2 ^ 16) % 2 ^ 16 := by
  rw [checksum, BitVec.toNat_sub, byteSum_toNat, BitVec.toNat_ofNat]
  omega

theorem sum_toNat_le (bs : List Byte) : (bs.map BitVec.toNat).sum ≤ 0xFF * bs.length := by
  induction bs with
  | nil => rfl
  | cons b bs ih =>
    have hb := b.isLt
    simp only [List.map_cons, List.sum_cons, List.length_cons]
    omega

/-! ### Command bytes as numbers (R76) -/

theorem cmdAddr_toNat (cmd : Byte) : (cmdAddr cmd).toNat = cmd.toNat % 16 := by
  rw [cmdAddr, BitVec.extractLsb'_toNat, Nat.shiftRight_zero]

/-- The address of a command byte, as the spec writes it. -/
theorem cmdAddr_eq_ofNat (cmd : Byte) : cmdAddr cmd = BitVec.ofNat 4 (cmd.toNat % 16) := by
  rw [← cmdAddr_toNat, BitVec.ofNat_toNat, BitVec.setWidth_eq]

theorem cmdSub_toNat (cmd : Byte) : (cmdSub cmd).toNat = cmd.toNat / 16 * 16 := by
  have h : cmdSub cmd = (cmd >>> 4) <<< 4 := by
    ext i hi
    interval_cases i <;> simp [cmdSub]
  have hlt := cmd.isLt
  rw [h, BitVec.toNat_shiftLeft, BitVec.toNat_ushiftRight, Nat.shiftRight_eq_div_pow, Nat.shiftLeft_eq]
  omega

/-- A sub-command by its number. -/
theorem cmdSub_eq_iff (cmd sub : Byte) : cmdSub cmd = sub ↔ cmd.toNat / 16 * 16 = sub.toNat := by
  rw [← cmdSub_toNat, BitVec.toNat_inj]

/-! ### The operation map by its rows (R77, R151) -/

variable {en : Bool} {count plen : Nat} {cmd : Byte} {data : List Byte}

theorem dispatchedPoll_cmdAddr_iff : dispatchedPoll en count plen (cmdAddr cmd) = true ↔
    plen = 1 ∧ en = true ∧ 1 ≤ cmd.toNat % 16 ∧ cmd.toNat % 16 ≤ count := by
  simp [dispatchedPoll, cmdAddr_toNat, and_assoc]

/-- A dispatched poll's address is not 0, as the control command's is. -/
theorem ne_cmdSetChannels_of_dispatched (h : dispatchedPoll en count plen (cmdAddr cmd) = true) :
    cmd ≠ cmdSetChannels := by
  obtain ⟨-, -, hpos, -⟩ := dispatchedPoll_cmdAddr_iff.1 h
  rintro rfl
  exact absurd hpos (by decide)

/-- Rows 2 to 5: the sub-command selects among the dispatched polls. -/
theorem classify_of_dispatched (h : dispatchedPoll en count plen (cmdAddr cmd) = true) :
    classify en count plen cmd data =
      if cmdSub cmd = subDiscover then .pollDiscover (cmdAddr cmd)
      else if cmdSub cmd = subType then .pollType (cmdAddr cmd)
      else if cmdSub cmd = subValue then .pollValue (cmdAddr cmd)
      else .pollUnknown cmd := by
  rw [classify, if_neg (ne_cmdSetChannels_of_dispatched h), if_pos h]

/-- Row 6: every other frame. -/
theorem classify_of_not_dispatched (hne : cmd ≠ cmdSetChannels)
    (h : ¬ dispatchedPoll en count plen (cmdAddr cmd) = true) :
    classify en count plen cmd data = .ignored cmd data := by
  rw [classify, if_neg hne, if_neg h]

/-- The frame of a Type or a Value reply has data bytes, which a poll has not, so its echo is ignored (R81, R264). -/
theorem decode_echo_of_data {c : Config} {sub : Byte} (en : Bool) (count : Nat) (a : Nibble)
    (hsub : sub ∈ [subDiscover, subType, subValue]) (hc : c.legal = true) (hpos : data ≠ [])
    (hd : data.length + 1 ≤ c.payloadMax) :
    decode c (.inbound en count (encodeReply c a sub data)) = .ok (.ignored (commandByte sub a) data) := by
  obtain ⟨-, -, hne⟩ := commandByte_fields sub hsub a
  have hplen : ¬ dispatchedPoll en count (data.length + 1) (cmdAddr (commandByte sub a)) = true := by
    simp [dispatchedPoll, hpos]
  rw [encodeReply, decode_inbound_encodeFrame en count hc hd, classify_of_not_dispatched hne hplen, FrameOp.toInstr]

end Sys2Proof
end

section
/-!
SUPPORT. Runs: a refusal is kept, and received bytes run as one function of the state (spec/30_encoding.md R91 to R93;
spec/40_frame_decoder.md R100 to R110).
-/

namespace Sys2Proof.Machine

variable {s : State}

/-! ### Refusals (R91) -/

/-- An event that decodes and yet has a reserved spelling is one of the two reserved operations. -/
theorem exec_of_decoded_reserved {e : EventWord} {i : Instr} (hd : decodeEvent e = .ok i)
    (h : e.extractLsb' 0 3 = 6#3 ∨ e.extractLsb' 0 3 = 7#3 ∨ e &&& reservedBits (e.extractLsb' 0 3) ≠ 0#64)
    (s : State) : exec i s = .refused .reservedOperation := by
  have hop : e.extractLsb' 0 3 = 6#3 ∨ e.extractLsb' 0 3 = 7#3 := by
    rcases h with h | h | h
    · exact .inl h
    · exact .inr h
    · have hlt : ¬ (e.extractLsb' 0 3).toNat ≤ 5 := fun hle => h (no_reserved_bit_of_decodeEvent hle hd)
      bv_omega
  rcases hop with hop | hop <;> rw [eq_reservedWord hop] at hd
  · obtain rfl := Except.ok.inj ((decodeEvent_reservedOp110 _).symm.trans hd)
    rfl
  · obtain rfl := Except.ok.inj ((decodeEvent_reservedOp111 _).symm.trans hd)
    rfl

/-- A refused step is the whole run, however long it goes on (log 13). -/
theorem run_of_refused {r : Refusal} (h : step s = .refused r) (k : Nat) :
    (Host.Core.run core (k + 1) s : Host.Outcome State Fault Refusal) = .refused r := by
  have hs : core.step s = .refused r := h
  simp only [Host.Core.run, hs]

theorem run_succ_of_next {u : State} (h : step s = .next u) (k : Nat) :
    (Host.Core.run core (k + 1) s : Host.Outcome State Fault Refusal) = Host.Core.run core k u := by
  have hs : core.step s = .next u := h
  simp only [Host.Core.run, hs]

/-! ### Waiting events under the effect of a received byte: no rule reads them -/

@[simp] theorem gapRule_offerEvents (es : List EventWord) (t : Millis) (s : State) :
    gapRule t (offerEvents es s) = offerEvents es (gapRule t s) := by
  have hgap : gapExceeded t (offerEvents es s) = gapExceeded t s := rfl
  have hres : resynchronise (offerEvents es s) = offerEvents es (resynchronise s) := by
    have hd : (offerEvents es s).dstate = s.dstate := rfl
    rw [resynchronise, resynchronise, hd]
    split <;> rfl
  rw [gapRule, gapRule, hgap, hres]
  split <;> rfl

theorem observe_offerEvents (es : List EventWord) (o : Observation) (s : State) :
    observe o (offerEvents es s) = offerEvents es (observe o s) := rfl

theorem sendReply_offerEvents (es : List EventWord) (a : Nibble) (sub : Byte) (data : List Byte) (s : State) :
    sendReply a sub data (offerEvents es s) = offerEvents es (sendReply a sub data s) := rfl

theorem readSensor_offerEvents (es : List EventWord) (slot : Nat) (s : State) :
    readSensor slot (offerEvents es s) = readSensor slot s := rfl

theorem countPoll_offerEvents (es : List EventWord) (scopes : List PollCountScope) (s : State) :
    countPoll scopes (offerEvents es s) = offerEvents es (countPoll scopes s) := by
  rw [countPoll, countPoll, apply_ite (offerEvents es)]
  rfl

theorem countValueReply_offerEvents (es : List EventWord) (s : State) :
    countValueReply (offerEvents es s) = offerEvents es (countValueReply s) := rfl

theorem answerDiscover_offerEvents (es : List EventWord) (a : Nibble) (s : State) :
    answerDiscover a (offerEvents es s) = offerEvents es (answerDiscover a s) := by
  simp only [answerDiscover, replyDiscover, countPoll_offerEvents, sendReply_offerEvents, observe_offerEvents]

theorem answerType_offerEvents (es : List EventWord) (a : Nibble) (s : State) :
    answerType a (offerEvents es s) = offerEvents es (answerType a s) := by
  simp only [answerType, replyType, readSensor_offerEvents, countPoll_offerEvents, sendReply_offerEvents,
    observe_offerEvents]

theorem answerValue_offerEvents (es : List EventWord) (a : Nibble) (s : State) :
    answerValue a (offerEvents es s) = offerEvents es (answerValue a s) := by
  simp only [answerValue, replyValue, readSensor_offerEvents, countValueReply_offerEvents, countPoll_offerEvents,
    sendReply_offerEvents, observe_offerEvents]

theorem runFrameOp_offerEvents (es : List EventWord) (op : FrameOp) (s : State) :
    runFrameOp op (offerEvents es s) = offerEvents es (runFrameOp op s) := by
  have hp : ∀ a, pollDispatched a (offerEvents es s) = pollDispatched a s := fun _ => rfl
  cases op with
  | setChannels data => rfl
  | pollDiscover a =>
    rw [runFrameOp, runFrameOp, hp, apply_ite (offerEvents es), answerDiscover_offerEvents]
    rfl
  | pollType a =>
    rw [runFrameOp, runFrameOp, hp, apply_ite (offerEvents es), answerType_offerEvents]
    rfl
  | pollValue a =>
    rw [runFrameOp, runFrameOp, hp, apply_ite (offerEvents es), answerValue_offerEvents]
    rfl
  | pollUnknown cmd =>
    rw [runFrameOp, runFrameOp, hp, apply_ite (offerEvents es)]
    rfl
  | ignored cmd data => rfl

theorem checksumHigh_offerEvents (es : List EventWord) (b : Byte) (s : State) :
    checksumHigh b (offerEvents es s) = offerEvents es (checksumHigh b s) := by
  have hmatch : checksumMatch b (offerEvents es s) = checksumMatch b s := rfl
  have hdispatch : dispatchFrame (offerEvents es s) = offerEvents es (dispatchFrame s) := by
    rw [dispatchFrame_eq_runFrameOp, dispatchFrame_eq_runFrameOp]
    exact runFrameOp_offerEvents es (frameOp s) s
  rw [checksumHigh, checksumHigh, hmatch, hdispatch]
  split <;> rfl

@[simp] theorem perState_offerEvents (es : List EventWord) (b : Byte) (s : State) :
    perState b (offerEvents es s) = offerEvents es (perState b s) := by
  have hsel : selectRx (offerEvents es s).cfg (offerEvents es s).dstate b = selectRx s.cfg s.dstate b := rfl
  rw [perState, perState, hsel]
  cases selectRx s.cfg s.dstate b with
  | lengthAccept => rfl
  | lengthReject => rfl
  | payload => rfl
  | checksumLow => rfl
  | checksumHigh => exact checksumHigh_offerEvents es b s
  | discard => rfl

/-! ### Received bytes as a function of the state (R92, R93, R101) -/

/-- What RX_BYTE does after INIT: the gap rule, then the selected rule. -/
def receive (b : Byte) (t : Millis) (s : State) : State := perState b (gapRule t s)

/-- The bytes received one after another, the first at `t` and each `dt` after the last. -/
def receiveAll : List Byte → Millis → Millis → State → State
  | [], _, _, s => s
  | b :: bs, t, dt, s => receiveAll bs (t + dt) dt (receive b t s)

theorem step_rxWord {b : Byte} {t : Millis} {rest : List EventWord} (hc : s.cfg.legal = true) (hi : s.initDone = true)
    (he : s.events = rxWord b t :: rest) : step s = .next (receive b t { s with events := rest }) :=
  (step_of_decoded hc he (decodeEvent_rxWord b t)).trans (afterInit_of_initDone _ _ hi)

/-- A run over the events of RXF, and no others, receives its bytes. -/
theorem run_rxf (bytes : List Byte) (t dt : Millis) (hc : s.cfg.legal = true) (hi : s.initDone = true)
    (he : s.events = []) :
    (Host.Core.run core bytes.length (offerEvents (rxf bytes t dt) s) : Host.Outcome State Fault Refusal) =
      .next (receiveAll bytes t dt s) := by
  induction bytes generalizing t s with
  | nil =>
    rw [rxf, offerEvents, List.append_nil]
    rfl
  | cons b bs ih =>
    have hev : (offerEvents (rxf (b :: bs) t dt) s).events = rxWord b t :: rxf bs (t + dt) dt := by
      simp [offerEvents, rxf, he]
    have htaken : { offerEvents (rxf (b :: bs) t dt) s with events := rxf bs (t + dt) dt } =
        offerEvents (rxf bs (t + dt) dt) s := by
      simp [offerEvents, he]
    have hstep : step (offerEvents (rxf (b :: bs) t dt) s) =
        .next (offerEvents (rxf bs (t + dt) dt) (receive b t s)) := by
      rw [step_rxWord (s := offerEvents _ s) hc hi hev, htaken, receive, gapRule_offerEvents, perState_offerEvents,
        receive]
    have hkeep : KeepsHostSide s (receive b t s) := receive_keepsHostSide b t s
    rw [List.length_cons, run_succ_of_next hstep]
    exact ih (t + dt) (hkeep.cfg ▸ hc) (hkeep.initDone.trans hi) (hkeep.events.trans he)

/-- The time of the byte after the `k`-th. -/
theorem time_succ (t dt : Millis) (k : Nat) : t + BitVec.ofNat 32 k * dt + dt = t + BitVec.ofNat 32 (k + 1) * dt := by
  rw [BitVec.ofNat_add, BitVec.add_mul, BitVec.one_mul, BitVec.add_assoc]

theorem receiveAll_append (xs ys : List Byte) (t dt : Millis) (s : State) :
    receiveAll (xs ++ ys) t dt s = receiveAll ys (t + BitVec.ofNat 32 xs.length * dt) dt (receiveAll xs t dt s) := by
  induction xs generalizing t s with
  | nil => simp [receiveAll]
  | cons x xs ih => rw [List.cons_append, receiveAll, ih, add_right_comm, time_succ, receiveAll, List.length_cons]

/-- A byte `dt` after the last one, within the gap limit, makes no gap. -/
theorem no_gap_of_dt {t dt : Millis} (ht : s.lastMs = t) (hdt : dt.toNat % 2 ^ s.cfg.clockBits ≤ s.cfg.gapMs) :
    gapExceeded (t + dt) s = false := by
  rw [gapExceeded_eq_false_iff, ht, add_sub_cancel_left]
  exact hdt

end Sys2Proof.Machine
end

section
/-!
SUPPORT. A whole frame received: the state after each part of the payload, and the operation that the frame in the
buffer selects (spec/40_frame_decoder.md R102 to R110).
-/

namespace Sys2Proof.Machine

variable {s g : State} {l b lo hi : Byte} {p : List Byte} {n : Nat} {t dt : Millis}

/-! ### The payload in the buffer (R26, R104) -/

theorem fillBuf_nil (s : State) : fillBuf [] s = s := by
  have hbuf : (Vector.ofFn fun i : Fin 29 => ([] : List Byte)[i.val]?.getD s.buf[i]) = s.buf := by
    ext i hi
    simp
  rw [fillBuf, hbuf]

/-- One more byte at the end of what stands at the start of the buffer. -/
theorem setIfInBounds_fillBuf (p : List Byte) (b : Byte) (s : State) :
    (fillBuf p s).buf.setIfInBounds p.length b = (fillBuf (p ++ [b]) s).buf := by
  apply Vector.ext
  intro i hi
  rw [fillBuf, fillBuf, Vector.getElem_setIfInBounds, Vector.getElem_ofFn, Vector.getElem_ofFn]
  rcases Nat.lt_trichotomy p.length i with h | h | h
  · rw [if_neg (by omega), List.getElem?_eq_none h.le, List.getElem?_eq_none (by simpa using h)]
  · simp [h]
  · rw [if_neg (by omega), List.getElem?_append_left h]

theorem take_fillBuf (hp : p.length ≤ 29) (s : State) : (fillBuf p s).buf.toList.take p.length = p := by
  apply List.ext_getElem
  · simp [hp]
  · intro i hi hi'
    simp [fillBuf, hi']

/-! ### The length byte and the payload (R102, R104) -/

/-- The decoder that stood as `g` at a length byte `l`, after the bytes `p` of a payload of `n` bytes, the last of them
at `t`. -/
def collected (l : Byte) (n : Nat) (p : List Byte) (t : Millis) (g : State) : State :=
  { fillBuf p g with
    dstate := if p.length < n then .accumulatingPayload else .awaitingChecksumLow
    plen := BitVec.ofNat 5 n
    ptr := BitVec.ofNat 5 p.length
    acc := checksum (l :: p)
    lastMs := t }

@[simp] theorem collected_cfg : (collected l n p t g).cfg = g.cfg := by simp only [collected, fillBuf]
@[simp] theorem collected_lastMs : (collected l n p t g).lastMs = t := by simp only [collected]

/-- The gap rule sets the time alone, where there is no gap. -/
theorem gapRule_collected (hdt : dt.toNat % 2 ^ g.cfg.clockBits ≤ g.cfg.gapMs) :
    gapRule (t + dt) (collected l n p t g) = collected l n p (t + dt) g := by
  rw [gapRule_of_no_gap _ _ (no_gap_of_dt collected_lastMs (by rwa [collected_cfg]))]
  simp only [collected]

theorem lengthAccept_eq_collected (hl : l.toNat - g.cfg.overhead = n) (hn : 0 < n) :
    lengthAccept l g = collected l n [] g.lastMs g := by
  rw [lengthAccept, collected, fillBuf_nil, checksum_singleton, hl, if_pos (by exact hn)]
  rfl

/-- One more payload byte: stored, counted and taken from the accumulator; the `n`-th moves the decoder on. -/
theorem payloadByte_collected (hp : p.length < n) (hn : n ≤ 29) :
    payloadByte b (collected l n p t g) = collected l n (p ++ [b]) t g := by
  have hptr : BitVec.ofNat 5 p.length + 1#5 = BitVec.ofNat 5 (p ++ [b]).length := by
    rw [List.length_append, BitVec.ofNat_add]
    rfl
  have hidx : (BitVec.ofNat 5 p.length).toNat = p.length := by
    rw [BitVec.toNat_ofNat]
    omega
  have hlast : BitVec.ofNat 5 (p ++ [b]).length = BitVec.ofNat 5 n ↔ ¬ (p ++ [b]).length < n := by
    rw [← BitVec.toNat_inj, BitVec.toNat_ofNat, BitVec.toNat_ofNat, List.length_append, List.length_singleton]
    omega
  have hd : (if BitVec.ofNat 5 (p ++ [b]).length = BitVec.ofNat 5 n then DState.awaitingChecksumLow
      else if p.length < n then .accumulatingPayload else .awaitingChecksumLow) =
      if (p ++ [b]).length < n then .accumulatingPayload else .awaitingChecksumLow := by
    rw [if_pos hp, if_congr hlast rfl rfl, ite_not]
  have hacc : checksum (l :: p) - b.setWidth 16 = checksum (l :: (p ++ [b])) :=
    (checksum_append_singleton (l :: p) b).symm
  simp only [payloadByte, writeBuf, collected, hptr, hidx, hd, hacc, setIfInBounds_fillBuf]
  rfl

theorem receive_collected (hp : p.length < n) (hn : n ≤ 29) (hdt : dt.toNat % 2 ^ g.cfg.clockBits ≤ g.cfg.gapMs) :
    receive b (t + dt) (collected l n p t g) = collected l n (p ++ [b]) (t + dt) g := by
  have hd : (collected l n p (t + dt) g).dstate = .accumulatingPayload := if_pos hp
  rw [receive, gapRule_collected hdt, perState, hd, selectRx, rowRule, payloadByte_collected hp hn]

/-- The rest of the payload is stored after what stands in the buffer. -/
theorem receiveAll_collected (q : List Byte) (hq : p.length + q.length ≤ n) (hn : n ≤ 29)
    (hdt : dt.toNat % 2 ^ g.cfg.clockBits ≤ g.cfg.gapMs) :
    receiveAll q (t + dt) dt (collected l n p t g) =
      collected l n (p ++ q) (t + BitVec.ofNat 32 q.length * dt) g := by
  induction q generalizing p t with
  | nil => simp [receiveAll]
  | cons b bs ih =>
    rw [List.length_cons] at hq
    rw [receiveAll, receive_collected (by omega) hn hdt, ih (by simp; omega), add_right_comm, time_succ,
      List.append_assoc, List.singleton_append, List.length_cons]

/-! ### The checksum's bytes (R105, R106) -/

/-- The decoder that stood as `g` at the length byte `l`, after the whole payload `p` and the checksum's low byte `lo`,
received at `t`. -/
def awaitingLast (l : Byte) (p : List Byte) (lo : Byte) (t : Millis) (g : State) : State :=
  { collected l p.length p t g with dstate := .awaitingChecksumHigh, rxLo := lo }

@[simp] theorem awaitingLast_cfg : (awaitingLast l p lo t g).cfg = g.cfg := by simp only [awaitingLast, collected_cfg]
@[simp] theorem awaitingLast_telemetryEnable : (awaitingLast l p lo t g).telemetryEnable = g.telemetryEnable := by
  simp only [awaitingLast, collected, fillBuf]
@[simp] theorem awaitingLast_sensorCount : (awaitingLast l p lo t g).sensorCount = g.sensorCount := by
  simp only [awaitingLast, collected, fillBuf]
@[simp] theorem awaitingLast_plen : (awaitingLast l p lo t g).plen = BitVec.ofNat 5 p.length := by
  simp only [awaitingLast, collected]
@[simp] theorem awaitingLast_buf : (awaitingLast l p lo t g).buf = (fillBuf p g).buf := by
  simp only [awaitingLast, collected]
@[simp] theorem awaitingLast_lastMs : (awaitingLast l p lo t g).lastMs = t := by
  simp only [awaitingLast, collected]

theorem receive_checksumLow (hdt : dt.toNat % 2 ^ g.cfg.clockBits ≤ g.cfg.gapMs) :
    receive lo (t + dt) (collected l p.length p t g) = awaitingLast l p lo (t + dt) g := by
  have hd : (collected l p.length p (t + dt) g).dstate = .awaitingChecksumLow := if_neg (Nat.lt_irrefl _)
  rw [receive, gapRule_collected hdt, perState, hd, selectRx, rowRule, checksumLow, awaitingLast]

theorem receive_checksumHigh (hdt : dt.toNat % 2 ^ g.cfg.clockBits ≤ g.cfg.gapMs) :
    receive hi (t + dt) (awaitingLast l p lo t g) = checksumHigh hi (awaitingLast l p lo (t + dt) g) := by
  have hgap : gapRule (t + dt) (awaitingLast l p lo t g) = awaitingLast l p lo (t + dt) g := by
    rw [gapRule_of_no_gap _ _ (no_gap_of_dt awaitingLast_lastMs (by rwa [awaitingLast_cfg]))]
    simp only [awaitingLast, collected]
  have hd : (awaitingLast l p lo (t + dt) g).dstate = .awaitingChecksumHigh := rfl
  rw [receive, hgap, perState, hd, selectRx, rowRule]

/-- After a gap, the bytes of a whole frame come to the validation of its checksum. -/
theorem receiveAll_frame (hlen : (gapRule t s).dstate = .awaitingLength) (hl : lengthAccepted s.cfg l = true)
    (hp : l.toNat - s.cfg.overhead = p.length) (hp29 : p.length ≤ 29)
    (hdt : dt.toNat % 2 ^ s.cfg.clockBits ≤ s.cfg.gapMs) :
    receiveAll (l :: p ++ [lo, hi]) t dt s =
      checksumHigh hi (awaitingLast l p lo (t + BitVec.ofNat 32 (p.length + 2) * dt) (gapRule t s)) := by
  have hpos : 0 < p.length := by
    obtain ⟨hlo, -⟩ := (lengthAccepted_iff s.cfg l).1 hl
    omega
  have hdt' : dt.toNat % 2 ^ (gapRule t s).cfg.clockBits ≤ (gapRule t s).cfg.gapMs := by rwa [gapRule_cfg]
  have hfirst : receive l t s = collected l p.length [] t (gapRule t s) := by
    rw [receive, perState, hlen, gapRule_cfg, selectRx, if_pos hl, rowRule,
      lengthAccept_eq_collected (by rwa [gapRule_cfg]) hpos, gapRule_lastMs]
  rw [List.cons_append, receiveAll, hfirst, receiveAll_append, receiveAll_collected p (by simp) hp29 hdt',
    List.nil_append, add_right_comm t dt, receiveAll, receive_checksumLow hdt', receiveAll,
    receive_checksumHigh hdt', receiveAll, time_succ, time_succ]

/-! ### The frame's operation (R77, R106 to R108) -/

variable {cmd : Byte} {data : List Byte}

/-- The frame in the buffer is the received one. -/
theorem frameOp_awaitingLast (hp : data.length + 1 ≤ 29) :
    frameOp (awaitingLast l (cmd :: data) lo t g) =
      classify g.telemetryEnable g.sensorCount (data.length + 1) cmd data := by
  have hplen : (awaitingLast l (cmd :: data) lo t g).plen.toNat = data.length + 1 := by
    rw [awaitingLast_plen, BitVec.toNat_ofNat, List.length_cons]
    omega
  have hcmd : frameCommand (awaitingLast l (cmd :: data) lo t g) = cmd := by
    rw [frameCommand, readBuf, awaitingLast_buf, ← readBuf, readBuf_fillBuf _ _ (by omega)]
    rfl
  have hdata : frameData (awaitingLast l (cmd :: data) lo t g) = data := by
    rw [frameData, hplen, awaitingLast_buf]
    exact congrArg (List.drop 1) (take_fillBuf (p := cmd :: data) hp g)
  rw [frameOp, hplen, hcmd, hdata, awaitingLast_telemetryEnable, awaitingLast_sensorCount]

theorem checksumHigh_of_match (h : u16 s.rxLo b = s.acc) :
    checksumHigh b s = enterDiscarding (runFrameOp (frameOp s) s) := by
  have hmatch : checksumMatch b s = true := beq_iff_eq.2 h
  rw [checksumHigh, if_pos hmatch, dispatchFrame_eq_runFrameOp]

theorem checksumHigh_of_mismatch (h : u16 s.rxLo b ≠ s.acc) :
    checksumHigh b s = enterDiscarding (observe (.checksumMismatch (u16 s.rxLo b) s.acc) s) := by
  have hmatch : ¬ checksumMatch b s = true := mt beq_iff_eq.1 h
  rw [checksumHigh, if_neg hmatch, receivedChecksum]

end Sys2Proof.Machine
end

section
/-!
PROOFS. The statements of spec/30_encoding.md's family.
-/

namespace Sys2Proof.Proofs

open Sys2Proof Sys2Proof.Machine

/-- Settles O2: in each branch of the decoder the word is put together from its fields. -/
theorem eventWordHasOneMeaning : Obligations.EventWordHasOneMeaning :=
  fun c _ _ h => encode_of_decodeEvent c h

/-- Settles O3: the length byte gives the number of data bytes, and the two bytes after them are the checksum's. -/
theorem frameBytesHaveOneMeaning : Obligations.FrameBytesHaveOneMeaning :=
  fun _ _ _ _ h => encodeFrame_of_decodeFrame h

/-- Settles O4: a decodable word of an operation up to 101 sets no reserved bit, so the decoder rejects the others, and
the two operations above are refused where they decode. A refused step is the whole run. -/
theorem reservedEventsAreRefused : Obligations.ReservedEventsAreRefused := by
  intro s e rest he hreserved
  obtain ⟨r, hr⟩ : ∃ r, step s = .refused r := by
    by_cases hc : s.cfg.legal = true
    · cases hd : decodeEvent e with
      | ok i => exact ⟨_, (step_of_decoded hc he hd).trans (exec_of_decoded_reserved hd hreserved _)⟩
      | error r => exact ⟨_, step_of_undecodable hc he hd⟩
    · exact ⟨_, step_of_not_legal hc⟩
  exact ⟨r, hr, run_of_refused hr⟩

/-- Settles O5: a word without a reserved bit is the encoder's word of its fields. -/
theorem wellSpelledEventsDecode : Obligations.WellSpelledEventsDecode :=
  fun _ hop hres => decodeEvent_of_no_reserved_bit hop hres

/-- Settles O7: each byte of the payload adds at most 0xFF to the sum, and there are at most 29. -/
theorem checksumIsTheComplementedSum : Obligations.ChecksumIsTheComplementedSum := by
  intro l payload
  refine ⟨checksum_toNat (l :: payload), fun hl hlen => ?_⟩
  have hsum := sum_toNat_le payload
  constructor <;> omega

/-- Settles O11: the rows of the map, with the address and the sub-command as numbers. -/
theorem inboundOperationMap : Obligations.InboundOperationMap := by
  intro en count plen cmd data addr sub poll slot
  have hdisp : dispatchedPoll en count plen (cmdAddr cmd) = true ↔ poll := dispatchedPoll_cmdAddr_iff
  have hcmd : cmd = cmdSetChannels ↔ cmd.toNat = 0x40 := BitVec.toNat_inj.symm
  have hslot : slot = cmdAddr cmd := (cmdAddr_eq_ofNat cmd).symm
  have h8 : cmdSub cmd = subDiscover ↔ sub = 0x80 := cmdSub_eq_iff cmd subDiscover
  have h9 : cmdSub cmd = subType ↔ sub = 0x90 := cmdSub_eq_iff cmd subType
  have hA : cmdSub cmd = subValue ↔ sub = 0xA0 := cmdSub_eq_iff cmd subValue
  rw [hslot]
  refine ⟨fun h => if_pos (hcmd.2 h), fun hp h => ?_, fun hp h => ?_, fun hp h => ?_, fun hp n8 n9 nA => ?_,
    fun h hp => classify_of_not_dispatched (mt hcmd.1 h) (mt hdisp.1 hp),
    fun ⟨h, hp⟩ => ne_cmdSetChannels_of_dispatched (hdisp.2 hp) (hcmd.2 h)⟩ <;>
    rw [classify_of_dispatched (hdisp.2 hp)]
  · rw [if_pos (h8.2 h)]
  · rw [if_neg (by rw [h8, h]; decide), if_pos (h9.2 h)]
  · rw [if_neg (by rw [h8, h]; decide), if_neg (by rw [h9, h]; decide), if_pos (hA.2 h)]
  · rw [if_neg (mt h8.1 n8), if_neg (mt h9.1 n9), if_neg (mt hA.1 nA)]

/-- Settles O40: the echo of a reply with data bytes is no poll's frame; that of a Discover reply is the poll's own. -/
theorem echoesOfReplies : Obligations.EchoesOfReplies := by
  intro c en count a ty v hc
  have hfits : ∀ data : List Byte, data.length ≤ 2 → data.length + 1 ≤ c.payloadMax :=
    fun _ => length_le_payloadMax_of_le_two hc
  refine ⟨decode_echo_of_data (sub := subType) en count a (by simp) hc (by simp) (hfits _ (by simp)),
    decode_echo_of_data (sub := subValue) en count a (by simp) hc (by simp) (hfits _ (by simp)), fun hen hpos hle => ?_⟩
  obtain ⟨haddr, hsub, -⟩ := commandByte_fields subDiscover (by simp) a
  have hp : dispatchedPoll en count 1 (cmdAddr (commandByte subDiscover a)) = true := by
    simp [dispatchedPoll, haddr, hen, hpos, hle]
  have hclassify : classify en count 1 (commandByte subDiscover a) [] = .pollDiscover a := by
    rw [classify_of_dispatched hp, if_pos hsub, haddr]
  exact (decode_inbound_encodeFrame en count hc (hfits [] (by simp))).trans
    (congrArg (Except.ok ∘ FrameOp.toInstr) hclassify)

/-- Settles O57: the run receives the bytes one by one, and the last of them validates the frame, which is the one in
the buffer. -/
theorem wholeFrameIsDispatchedOrDropped : Obligations.WholeFrameIsDispatchedOrDropped := by
  intro s cmd cLo cHi data t dt hc hi he hd hgap hdt l c received ran
  obtain ⟨-, -, hmax, -⟩ := (legal_iff s.cfg).1 hc
  have hd29 : data.length + 1 ≤ 29 := hd.trans hmax
  have hl : l.toNat - s.cfg.overhead = (cmd :: data).length := by
    rw [frameLength_toNat s.cfg data hc hd, List.length_cons]
    omega
  have hlen : (gapRule t s).dstate = .awaitingLength := by
    rw [gapRule_dstate, (gapExceeded_iff t s).2 hgap, if_pos rfl]
  have hreceived : received = awaitingLast l (cmd :: data) cLo (t + BitVec.ofNat 32 (data.length + 3) * dt)
      (gapRule t s) := by
    simp only [received, awaitingLast, collected, List.length_cons, c]
  have hran : ran = .next (checksumHigh cHi received) := by
    rw [hreceived]
    have hcount : (l :: cmd :: data ++ [cLo, cHi]).length = data.length + 4 := by simp
    have hrun := run_rxf (l :: cmd :: data ++ [cLo, cHi]) t dt hc hi he
    rw [hcount] at hrun
    exact hrun.trans (congrArg _ (receiveAll_frame hlen (lengthAccepted_frameLength hc hd) hl hd29 hdt))
  have hop : frameOp received = classify s.telemetryEnable s.sensorCount (data.length + 1) cmd data := by
    rw [hreceived, frameOp_awaitingLast hd29, gapRule_telemetryEnable, gapRule_sensorCount]
  refine ⟨fun hmatch => ⟨runFrameOp (frameOp received) received, ?_, ?_⟩, fun hmismatch => ?_⟩
  · rw [← hop, exec_frameOp]
  · rw [hran, checksumHigh_of_match hmatch, enterDiscarding]
  · rw [hran, checksumHigh_of_mismatch hmismatch]
    simp only [enterDiscarding, observe, received, fillBuf]

/-- Settles O6: the decoder's value at each word. -/
theorem writtenOutWordsDecode : Obligations.WrittenOutWordsDecode :=
  ⟨rfl, rfl, rfl, rfl, rfl, rfl, rfl, rfl, rfl⟩

/-- Settles O36: each of the three conditions takes the poll's dispatch away. -/
theorem undispatchedPollIsIgnored : Obligations.UndispatchedPollIsIgnored := by
  intro a cmd s h
  have hp : ¬ pollDispatched a s = true := by
    rw [pollDispatched_iff]
    rintro ⟨hen, hpos, hle⟩
    rcases h with h | rfl | h
    · exact absurd (h.symm.trans hen) (by decide)
    · exact absurd hpos (by decide)
    · omega
  refine ⟨congrArg _ (if_neg hp), congrArg _ (if_neg hp), congrArg _ (if_neg hp), ?_⟩
  rintro rfl
  exact congrArg _ (if_neg hp)

/-- Settles O38: a reply is its guard pause and then its bytes. -/
theorem repliesAreEmittedWhole : Obligations.RepliesAreEmittedWhole :=
  fun _ _ _ _ => ⟨rfl, rfl, rfl⟩

/-- Settles O49: the arms of the two reserved operations. -/
theorem reservedOperationsAreRefused : Obligations.ReservedOperationsAreRefused :=
  fun _ _ => ⟨rfl, rfl⟩

end Sys2Proof.Proofs
end

section
/-!
SUPPORT. One received byte: the row that the decoder state selects, the next decoder state, and the outputs that a byte
can reach (spec/40_frame_decoder.md R100 to R111).
-/

namespace Sys2Proof.Machine

variable {s u : State} {b : Byte} {t : Millis} {r : RxRow}

/-! ### The row of a byte (R101) -/

/-- After INIT, RX_BYTE and each of its rows receive the byte. -/
theorem exec_rxRow_of_initDone (hi : s.initDone = true) (r : RxRow) : exec (r.toInstr b t) s = .next (receive b t s) :=
  (exec_rxRow s r b t).trans (afterInit_of_initDone _ _ hi)

theorem exec_rxByte_of_initDone (hi : s.initDone = true) : exec (.rxByte b t) s = .next (receive b t s) :=
  afterInit_of_initDone _ _ hi

/-- The selected row and RX_BYTE both go where the row's rule leads from the state that the gap rule leaves. -/
theorem exec_selectedRow (hi : s.initDone = true) (hsel : selectRx s.cfg (gapRule t s).dstate b = r)
    (hu : rowRule r b (gapRule t s) = u) :
    exec (r.toInstr b t) s = .next u ∧ exec (.rxByte b t) s = .next u := by
  have hreceive : receive b t s = u := by rw [receive, perState, gapRule_cfg, hsel, hu]
  exact ⟨hreceive ▸ exec_rxRow_of_initDone hi r, hreceive ▸ exec_rxByte_of_initDone hi⟩

/-- The same without a gap, where the gap rule writes the time alone. -/
theorem exec_selectedRow_of_no_gap (hi : s.initDone = true)
    (hgap : (t - s.lastMs).toNat % 2 ^ s.cfg.clockBits ≤ s.cfg.gapMs) (hsel : selectRx s.cfg s.dstate b = r)
    (hu : rowRule r b { s with lastMs := t } = u) :
    exec (r.toInstr b t) s = .next u ∧ exec (.rxByte b t) s = .next u := by
  have hrule : gapRule t s = { s with lastMs := t } := gapRule_of_no_gap t s ((gapExceeded_eq_false_iff t s).2 hgap)
  exact exec_selectedRow hi (by rw [hrule, hsel]) (by rw [hrule, hu])

/-! ### The next decoder state (R111) -/

@[simp] theorem checksumHigh_dstate (b : Byte) (s : State) : (checksumHigh b s).dstate = .discarding := rfl

/-- The transition table's next state. -/
def nextDState (b : Byte) (s : State) : DState :=
  match s.dstate with
  | .awaitingLength => if lengthAccepted s.cfg b then .accumulatingPayload else .discarding
  | .accumulatingPayload => if s.ptr + 1#5 = s.plen then .awaitingChecksumLow else .accumulatingPayload
  | .awaitingChecksumLow => .awaitingChecksumHigh
  | .awaitingChecksumHigh => .discarding
  | .discarding => .discarding

theorem perState_dstate (b : Byte) (s : State) : (perState b s).dstate = nextDState b s := by
  rcases perState_cases b s with ⟨hd, hl, h⟩ | ⟨hd, hl, h⟩ | ⟨hd, h⟩ | ⟨hd, h⟩ | ⟨hd, h⟩ | ⟨hd, h⟩ <;>
    rw [h, nextDState, hd]
  · exact (if_pos hl).symm
  · exact (if_neg (ne_true_of_eq_false hl)).symm
  · rw [payloadByte_dstate, hd]
  · rfl
  · rfl

theorem nextDState_ne_awaitingLength (b : Byte) (s : State) : nextDState b s ≠ .awaitingLength := by
  unfold nextDState
  split
  · split <;> simp
  · split <;> simp
  all_goals simp

/-! ### The outputs (R107) -/

/-- The channels, the counters of valid frames and the transmit stream are kept. -/
structure KeepsOutputs (s u : State) : Prop where
  ch : u.ch = s.ch
  cntRec : u.cntRec = s.cntRec
  cntPoll : u.cntPoll = s.cntPoll
  cntSensor : u.cntSensor = s.cntSensor
  tx : u.tx = s.tx

theorem gapRule_keepsOutputs (t : Millis) (s : State) : KeepsOutputs s (gapRule t s) := by
  constructor <;> simp

/-- The per-state rule keeps the outputs, but for the high byte of a matching checksum. -/
theorem perState_keepsOutputs_or_match (b : Byte) (s : State) :
    KeepsOutputs s (perState b s) ∨ s.dstate = .awaitingChecksumHigh ∧ u16 s.rxLo b = s.acc := by
  rcases perState_cases b s with ⟨-, -, h⟩ | ⟨-, -, h⟩ | ⟨-, h⟩ | ⟨-, h⟩ | ⟨hd, h⟩ | ⟨-, h⟩ <;> rw [h]
  · exact .inl ⟨rfl, rfl, rfl, rfl, rfl⟩
  · exact .inl ⟨rfl, rfl, rfl, rfl, rfl⟩
  · exact .inl ⟨rfl, rfl, rfl, rfl, rfl⟩
  · exact .inl ⟨rfl, rfl, rfl, rfl, rfl⟩
  · by_cases hmatch : u16 s.rxLo b = s.acc
    · exact .inr ⟨hd, hmatch⟩
    · rw [checksumHigh_of_mismatch hmatch]
      exact .inl ⟨rfl, rfl, rfl, rfl, rfl⟩
  · exact .inl ⟨rfl, rfl, rfl, rfl, rfl⟩

/-- A state other than AwaitingLength after the gap rule stood before it, and there was no gap. -/
theorem no_gap_of_gapRule_dstate (h : (gapRule t s).dstate ≠ .awaitingLength) :
    gapExceeded t s = false ∧ (gapRule t s).dstate = s.dstate := by
  rw [gapRule_dstate] at h ⊢
  cases hgap : gapExceeded t s with
  | true => exact absurd (if_pos hgap) h
  | false => exact ⟨rfl, if_neg Bool.false_ne_true⟩

end Sys2Proof.Machine
end

section
/-!
SUPPORT. Bytes received one after another without a gap: how far a frame has come after some of its bytes, and the bytes
that Discarding takes (spec/40_frame_decoder.md R109, R112).
-/

namespace Sys2Proof.Machine

variable {s : State} {l b lo : Byte} {p bytes : List Byte} {n : Nat} {t dt : Millis}

/-! ### Discarding (R103, R109) -/

theorem receive_discarding (hd : s.dstate = .discarding) (hgap : gapExceeded t s = false) :
    receive b t s = { s with lastMs := t } := by
  rw [receive, gapRule_of_no_gap t s hgap, perState]
  simp only [hd]
  rfl

/-- Bytes that follow one another without a gap change the time alone. -/
theorem receiveAll_discarding (hd : s.dstate = .discarding) (ht : s.lastMs = t)
    (hdt : dt.toNat % 2 ^ s.cfg.clockBits ≤ s.cfg.gapMs) :
    receiveAll bytes (t + dt) dt s = { s with lastMs := t + BitVec.ofNat 32 bytes.length * dt } := by
  induction bytes generalizing s t with
  | nil => simp [receiveAll, ← ht]
  | cons b bs ih =>
    rw [receiveAll, receive_discarding hd (no_gap_of_dt ht hdt), ih (s := { s with lastMs := t + dt }) hd rfl hdt,
      add_right_comm, time_succ, List.length_cons]

theorem receive_lengthReject (hlen : (gapRule t s).dstate = .awaitingLength) (hl : lengthAccepted s.cfg l = false) :
    receive l t s = lengthReject l (gapRule t s) := by
  rw [receive, perState, hlen, gapRule_cfg, selectRx, if_neg (ne_true_of_eq_false hl), rowRule]

/-! ### A frame's bytes (R102 to R106, R112) -/

theorem receive_lengthAccept (hlen : (gapRule t s).dstate = .awaitingLength) (hl : lengthAccepted s.cfg l = true)
    (hn : l.toNat - s.cfg.overhead = n) : receive l t s = collected l n [] t (gapRule t s) := by
  obtain ⟨hlo, -⟩ := (lengthAccepted_iff s.cfg l).1 hl
  rw [receive, perState, hlen, gapRule_cfg, selectRx, if_pos hl, rowRule,
    lengthAccept_eq_collected (n := n) (by rwa [gapRule_cfg]) (by omega), gapRule_lastMs]

/-- Up to the whole payload, the bytes after an accepted length byte are collected. -/
theorem receiveAll_payload (hlen : (gapRule t s).dstate = .awaitingLength) (hl : lengthAccepted s.cfg l = true)
    (hn : l.toNat - s.cfg.overhead = n) (hn29 : n ≤ 29) (hp : p.length ≤ n)
    (hdt : dt.toNat % 2 ^ s.cfg.clockBits ≤ s.cfg.gapMs) :
    receiveAll (l :: p) t dt s = collected l n p (t + BitVec.ofNat 32 p.length * dt) (gapRule t s) := by
  rw [receiveAll, receive_lengthAccept hlen hl hn,
    receiveAll_collected p (by simpa using hp) hn29 (by rwa [gapRule_cfg]), List.nil_append]

/-- After the length byte, the whole payload and the checksum's low byte, the high byte is awaited. -/
theorem receiveAll_payload_checksumLow (hlen : (gapRule t s).dstate = .awaitingLength)
    (hl : lengthAccepted s.cfg l = true) (hp : l.toNat - s.cfg.overhead = p.length) (hp29 : p.length ≤ 29)
    (hdt : dt.toNat % 2 ^ s.cfg.clockBits ≤ s.cfg.gapMs) :
    receiveAll (l :: (p ++ [lo])) t dt s =
      awaitingLast l p lo (t + BitVec.ofNat 32 p.length * dt + dt) (gapRule t s) := by
  rw [← List.cons_append, receiveAll_append, receiveAll_payload hlen hl hp hp29 le_rfl hdt, List.length_cons,
    ← time_succ, receiveAll, receive_checksumLow (by rwa [gapRule_cfg]), receiveAll]

/-- An accepted length byte and its frame's further bytes, whatever they are, lead to Discarding exactly when the whole
payload and two checksum bytes have come. -/
theorem receiveAll_dstate_eq_discarding_iff (hlen : (gapRule t s).dstate = .awaitingLength)
    (hl : lengthAccepted s.cfg l = true) (hn : l.toNat - s.cfg.overhead = n) (hn29 : n ≤ 29)
    (hbytes : bytes.length ≤ n + 2) (hdt : dt.toNat % 2 ^ s.cfg.clockBits ≤ s.cfg.gapMs) :
    (receiveAll (l :: bytes) t dt s).dstate = .discarding ↔ bytes.length = n + 2 := by
  obtain hpayload | hlow | hhigh : bytes.length ≤ n ∨ bytes.length = n + 1 ∨ bytes.length = n + 2 := by omega
  · have hd : (collected l n bytes (t + BitVec.ofNat 32 bytes.length * dt) (gapRule t s)).dstate ≠ .discarding := by
      rw [collected]
      split <;> simp
    rw [receiveAll_payload hlen hl hn hn29 hpayload hdt]
    exact iff_of_false hd (by omega)
  · obtain rfl | ⟨p, lo, rfl⟩ := bytes.eq_nil_or_concat'
    · cases hlow
    · have hp : p.length = n := by simpa using hlow
      subst hp
      rw [receiveAll_payload_checksumLow hlen hl hn hn29 hdt]
      exact iff_of_false (by simp [awaitingLast]) (by omega)
  · have hp : (bytes.take n).length = n := by simp [hhigh]
    rw [eq_take_append_pair 0#8 hhigh, ← List.cons_append,
      receiveAll_frame hlen hl (hn.trans hp.symm) (hp.trans_le hn29) hdt]
    exact iff_of_true (checksumHigh_dstate _ _) (by simp [hp])

end Sys2Proof.Machine
end

section
/-!
PROOFS. The statements of spec/40_frame_decoder.md's family.
-/

namespace Sys2Proof.Proofs

open Sys2Proof Sys2Proof.Machine

/-- Settles O18: every row of RX_BYTE means what RX_BYTE means, so the selected one does. -/
theorem rxByteRunsItsSelectedRow : Obligations.RxByteRunsItsSelectedRow :=
  fun b t s => (exec_rxRow s (selectRx s.cfg (gapRule t s).dstate b) b t).symm

/-- Settles O23: the validation in the state with the new time, which the frame's operation is read from and run in. -/
theorem checksumHighByteValidates : Obligations.ChecksumHighByteValidates := by
  intro b t s hi hd hgap
  have hsel : selectRx s.cfg s.dstate b = .checksumHigh := by rw [hd, selectRx]
  refine ⟨fun hmatch => ⟨runFrameOp (frameOp s) { s with lastMs := t }, exec_frameOp _ _,
      exec_selectedRow_of_no_gap (r := .checksumHigh) hi hgap hsel ?_⟩,
    fun hmismatch => exec_selectedRow_of_no_gap (r := .checksumHigh) hi hgap hsel ?_⟩
  · exact checksumHigh_of_match (s := { s with lastMs := t }) hmatch
  · exact checksumHigh_of_mismatch (s := { s with lastMs := t }) hmismatch

/-- Settles O25: the rows of the next-state table, from the state that the gap rule leaves. -/
theorem decoderFollowsTheTransitionTable : Obligations.DecoderFollowsTheTransitionTable := by
  intro b t s hi d
  have hd : (gapRule t s).dstate = d := by
    rw [gapRule_dstate]
    exact if_congr (gapExceeded_iff t s) rfl rfl
  have hnext : (receive b t s).dstate = nextDState b (gapRule t s) := perState_dstate b _
  refine ⟨receive b t s, exec_rxByte_of_initDone hi, ?_⟩
  rw [hnext]
  refine ⟨fun h hlo hhi => ?_, fun h hout => ?_, fun h hptr => ?_, fun h hptr => ?_, fun h => ?_, fun h => ?_,
    fun h => ?_, nextDState_ne_awaitingLength b _⟩ <;> rw [nextDState, hd, h]
  · rw [gapRule_cfg]
    exact if_pos ((lengthAccepted_iff s.cfg b).2 ⟨hlo, hhi⟩)
  · rw [gapRule_cfg]
    exact if_neg (ne_true_of_eq_false ((lengthAccepted_eq_false_iff s.cfg b).2 hout))
  · have hsucc := ptr_succ_toNat (Nat.lt_of_succ_lt hptr)
    rw [gapRule_ptr, gapRule_plen]
    exact if_neg fun heq => absurd (hsucc.symm.trans (congrArg BitVec.toNat heq)) (Nat.ne_of_lt hptr)
  · have hsucc := ptr_succ_toNat (Nat.lt_of_succ_le hptr.le)
    rw [gapRule_ptr, gapRule_plen]
    exact if_pos (BitVec.eq_of_toNat_eq (hsucc.trans hptr))

/-- Settles O26: the gap rule keeps the outputs, and the per-state rule reaches them on a checksum match alone, in a
state that only the absence of a gap leaves. -/
theorem onlyValidatedFramesReachTheOutputs : Obligations.OnlyValidatedFramesReachTheOutputs := by
  intro b t s u hexec hchanged
  obtain ⟨-, rfl⟩ := (afterInit_eq_next _ _ _).1 hexec
  rcases perState_keepsOutputs_or_match b (gapRule t s) with hkeep | ⟨hd, hmatch⟩
  · have hgapKeep := gapRule_keepsOutputs t s
    rcases hchanged with h | h | h | h | h
    · exact absurd (hkeep.ch.trans hgapKeep.ch) h
    · exact absurd (hkeep.cntRec.trans hgapKeep.cntRec) h
    · exact absurd (hkeep.cntPoll.trans hgapKeep.cntPoll) h
    · exact absurd (hkeep.cntSensor.trans hgapKeep.cntSensor) h
    · exact absurd (hkeep.tx.trans hgapKeep.tx) h
  · obtain ⟨hgap, hds⟩ := no_gap_of_gapRule_dstate (s := s) (t := t) (by rw [hd]; decide)
    rw [gapRule_rxLo, gapRule_acc] at hmatch
    exact ⟨hds.symm.trans hd, (gapExceeded_eq_false_iff t s).1 hgap, hmatch⟩

/-- Settles O58: the run receives the bytes one by one, and the frame's part that they complete gives the decoder
state. -/
theorem decoderRecoversWithinAFrame : Obligations.DecoderRecoversWithinAFrame := by
  intro s l bytes t dt hc hi he hlen hlo hhi hbytes hdt
  obtain ⟨-, ⟨-, -, hmax, -⟩, hmax29, -⟩ := (legal_iff s.cfg).1 hc
  have hdisc := receiveAll_dstate_eq_discarding_iff hlen ((lengthAccepted_iff s.cfg l).2 ⟨hlo, hhi⟩) rfl (by omega)
    hbytes hdt
  refine ⟨receiveAll (l :: bytes) t dt s, run_rxf (l :: bytes) t dt hc hi he, hdisc, fun hthree => ?_⟩
  rw [hdisc]
  omega

/-- Settles O59: the length byte is rejected, and the bytes after it are discarded. -/
theorem badFrameIsCountedOnce : Obligations.BadFrameIsCountedOnce := by
  intro s l bytes t dt hc hi he hlen hout hdt
  have hrun := run_rxf (l :: bytes) t dt hc hi he
  have hreject := receive_lengthReject hlen ((lengthAccepted_eq_false_iff s.cfg l).2 hout)
  rw [receiveAll, hreject, receiveAll_discarding (t := t) rfl rfl (by rwa [lengthReject_cfg, gapRule_cfg])] at hrun
  rw [← gapRule_cntLenerr (t := t), ← gapRule_cfg (s := s) (t := t)]
  exact hrun

/-- Settles O17: the two sides of the gap rule's condition. -/
theorem gapRuleResynchronises : Obligations.GapRuleResynchronises := by
  intro t s gap
  have hgap : gap = (t - s.lastMs).toNat % 2 ^ s.cfg.clockBits := by
    rw [BitVec.toNat_sub', ← Nat.add_sub_assoc s.lastMs.isLt.le]
  rw [hgap, ← gapExceeded_iff, ← gapExceeded_eq_false_iff]
  refine ⟨gapRule_of_no_gap t s, fun h => ?_⟩
  rw [gapRule_of_gap t s h, resynchronise]
  cases s.dstate <;> rfl

/-- Settles O19: the row of an accepted length byte. -/
theorem lengthByteIsAccepted : Obligations.LengthByteIsAccepted := by
  intro b t s hi hd hlo hhi u
  refine exec_selectedRow (r := .lengthAccept) hi ?_ ?_
  · rw [hd]
    exact if_pos ((lengthAccepted_iff s.cfg b).2 ⟨hlo, hhi⟩)
  · simp only [rowRule, lengthAccept, gapRule_cfg, u]

/-- Settles O20: the row of a rejected length byte. -/
theorem lengthByteIsRejected : Obligations.LengthByteIsRejected := by
  intro b t s hi hd hout g u
  refine exec_selectedRow (r := .lengthReject) hi ?_ ?_
  · rw [hd]
    exact if_neg (ne_true_of_eq_false ((lengthAccepted_eq_false_iff s.cfg b).2 hout))
  · simp only [u, ← gapRule_cfg (s := s) (t := t)]
    rfl

/-- Settles O21: the row of a payload byte, `ptr` counting without wrapping below `plen`. -/
theorem payloadByteIsStored : Obligations.PayloadByteIsStored := by
  intro b t s hi hd hgap hptr hplen
  have hlast : s.ptr + 1#5 = s.plen ↔ s.ptr.toNat + 1 = s.plen.toNat := by
    rw [← BitVec.toNat_inj, ptr_succ_toNat hptr]
  obtain ⟨hrow, hrx⟩ := exec_selectedRow_of_no_gap (r := .payload) (b := b) hi hgap (by rw [hd, selectRx]) rfl
  refine ⟨_, hrow, hrx, fun k hk => ?_, ?_⟩
  · have hread := readBuf_writeBuf s.ptr.toNat k b s
    rw [if_congr (and_iff_left hk) rfl rfl] at hread
    rw [if_congr eq_comm rfl rfl]
    exact hread
  · simp only [rowRule, payloadByte, writeBuf, hd, hlast]

/-- Settles O22: the row of the checksum's low byte. -/
theorem checksumLowByteIsStored : Obligations.ChecksumLowByteIsStored :=
  fun _ _ _ hi hd hgap => exec_selectedRow_of_no_gap (r := .checksumLow) hi hgap (by rw [hd, selectRx]) rfl

/-- Settles O24: the row of a byte in Discarding. -/
theorem discardedByteSetsTheTimeOnly : Obligations.DiscardedByteSetsTheTimeOnly :=
  fun _ _ _ hi hd hgap => exec_selectedRow_of_no_gap (r := .discard) hi hgap (by rw [hd, selectRx]) rfl

end Sys2Proof.Proofs
end

section
/-!
SUPPORT. SET_CHANNELS: its next state, and what each channel register holds in it (spec/41_control_command.md R131 to
R135).
-/

namespace Sys2Proof.Machine

variable {data : List Byte} {i : Nat}

theorem exec_setChannels (data : List Byte) (s : State) : exec (.setChannels data) s = .next (setChannels data s) :=
  exec_frameOp (.setChannels data) s

/-- A register that exists is present in the vector, so an indexed read of it is `readCh`. -/
theorem ch_getElem?_eq_some_readCh (hi : i < 10) (s : State) : s.ch[i]? = some (readCh i s) := by
  rw [readCh, Vector.getElem?_eq_getElem hi, Option.getD_some]

theorem pairPresent_iff (data : List Byte) (i : Nat) : pairPresent data i = true ↔ 2 * i + 2 ≤ data.length :=
  decide_eq_true_iff

/-- The pair that carries a value low byte first is the value (R78, R53). -/
theorem channelPair_of_lo8_hi8 {v : Half} (hlo : data[2 * i]? = some (lo8 v)) (hhi : data[2 * i + 1]? = some (hi8 v)) :
    channelPair data i = v := by
  rw [channelPair, hlo, hhi, Option.getD_some, Option.getD_some, u16_lo8_hi8]

/-- R131, R132: the counter and the outcome leave the channels as the channel writes put them. -/
theorem readCh_setChannels (data : List Byte) (hi : i < 10) (s : State) :
    readCh i (setChannels data s) =
      if i < s.cfg.channels ∧ 2 * i + 2 ≤ data.length then channelPair data i else readCh i s :=
  (readCh_writeChannels data i hi s).trans (if_congr (and_congr_right' (pairPresent_iff data i)) rfl rfl)

/-- R131: SET_CHANNELS as one update of the state, its channels apart. -/
theorem setChannels_eq_update (data : List Byte) (s : State) :
    setChannels data s = { s with
      ch := (setChannels data s).ch
      cntRec := nextCount s.cfg s.cntRec
      outcomes := s.outcomes ++ [.controlAccepted] } := rfl

end Sys2Proof.Machine
end

section
/-!
PROOFS. The statements of spec/41_control_command.md's family.
-/

namespace Sys2Proof.Proofs

open Sys2Proof Sys2Proof.Machine

/-- Settles O28: the two sides of the write condition, with the payload length of R132 counted in data bytes. -/
theorem setChannelsStoresThePresentPairs : Obligations.SetChannelsStoresThePresentPairs := by
  intro data s
  refine ⟨setChannels data s, exec_setChannels data s, fun i hi => ?_⟩
  rw [readCh_setChannels data hi]
  refine ⟨fun hch hpresent => ?written, fun hkept => ?kept⟩
  case written => exact if_pos ⟨hch, Nat.le_of_succ_le_succ hpresent⟩
  case kept => exact if_neg (by omega)

/-- Settles O29: the update that SET_CHANNELS makes, with R32's counter step. -/
theorem setChannelsWritesNothingElse : Obligations.SetChannelsWritesNothingElse :=
  fun data s => ⟨setChannels data s, exec_setChannels data s, setChannels_eq_update data s⟩

/-- Settles O30: the pair is wholly present, since its high byte is, and the two bytes assemble to the value. -/
theorem channelValuesAreStoredAsReceived : Obligations.ChannelValuesAreStoredAsReceived := by
  intro data s i v hch hi hlo hhi
  have hpresent : 2 * i + 2 ≤ data.length := (List.getElem?_eq_some_iff.1 hhi).1
  have hstored : readCh i (setChannels data s) = v := by
    rw [readCh_setChannels data hi, if_pos ⟨hch, hpresent⟩, channelPair_of_lo8_hi8 hlo hhi]
  exact ⟨setChannels data s, exec_setChannels data s, hstored ▸ ch_getElem?_eq_some_readCh hi _⟩

end Sys2Proof.Proofs
end

section
/-!
SUPPORT. Polls and their replies: the bytes of a reply, what an answered poll leaves in the state, and what one received
byte can do to the transmit stream (spec/42_telemetry.md R150 to R162).
-/

namespace Sys2Proof

/-! ### A reply's bytes (R152) -/

theorem checksum_pair (l cmd : Byte) : checksum [l, cmd] = 0xFFFF#16 - (l.setWidth 16 + cmd.setWidth 16) := by
  simp [checksum, byteSum]

theorem checksum_quadruple (l cmd x y : Byte) : checksum [l, cmd, x, y] =
    0xFFFF#16 - (l.setWidth 16 + cmd.setWidth 16 + x.setWidth 16 + y.setWidth 16) := by
  simp [checksum, byteSum, BitVec.add_assoc]

theorem commandByte_toNat (sub : Byte) (a : Nibble) :
    (commandByte sub a).toNat = (sub.toNat + a.toNat) % 2 ^ 8 := by
  have ha : a.toNat < 2 ^ 8 := a.isLt.trans (by decide)
  rw [commandByte, BitVec.toNat_add, BitVec.toNat_setWidth, Nat.mod_eq_of_lt ha]

end Sys2Proof

namespace Sys2Proof.Machine

variable {s u : State} {a : Nibble} {sub : Byte} {data : List Byte}

/-- A reply is its length byte, command byte and data bytes, then its checksum, low byte first. -/
theorem encodeReply_of_checksum {c : Config} {sum : Half}
    (h : checksum (frameLength c data :: commandByte sub a :: data) = sum) :
    encodeReply c a sub data = frameLength c data :: commandByte sub a :: data ++ [lo8 sum, hi8 sum] := by
  rw [encodeReply, encodeFrame, h]

/-! ### Dispatched polls (R151) -/

theorem exec_pollDiscover_of_dispatched (h : pollDispatched a s = true) :
    exec (.pollDiscover a) s = .next (answerDiscover a s) := congrArg _ (if_pos h)

theorem exec_pollType_of_dispatched (h : pollDispatched a s = true) :
    exec (.pollType a) s = .next (answerType a s) := congrArg _ (if_pos h)

theorem exec_pollValue_of_dispatched (h : pollDispatched a s = true) :
    exec (.pollValue a) s = .next (answerValue a s) := congrArg _ (if_pos h)

theorem exec_pollUnknown_of_dispatched {cmd : Byte} (h : pollDispatched (cmdAddr cmd) s = true) :
    exec (.pollUnknown cmd) s = .next (unknownPoll cmd s) := congrArg _ (if_pos h)

/-! ### Answered polls as updates of the state (R153 to R156, R160) -/

theorem countPoll_eq_update (scopes : List PollCountScope) (s : State) :
    countPoll scopes s =
      { s with cntPoll := if s.cfg.pollCountScope ∈ scopes then nextCount s.cfg s.cntPoll else s.cntPoll } := by
  rw [countPoll]
  split <;> rfl

/-- Under either scope, a poll that both count is counted. -/
theorem countPoll_both (s : State) :
    countPoll [.discoverOnly, .allAnswered] s = { s with cntPoll := nextCount s.cfg s.cntPoll } := by
  have hscope : s.cfg.pollCountScope ∈ [PollCountScope.discoverOnly, .allAnswered] := by
    cases s.cfg.pollCountScope <;> simp
  rw [countPoll_eq_update, if_pos hscope]

/-- `cnt_poll` after a poll that AllAnswered alone counts (R160). -/
def cntPollIfAllAnswered (s : State) : Counter :=
  if s.cfg.pollCountScope = .allAnswered then nextCount s.cfg s.cntPoll else s.cntPoll

theorem countPoll_allAnswered (s : State) :
    countPoll [.allAnswered] s = { s with cntPoll := cntPollIfAllAnswered s } := by
  rw [countPoll_eq_update, if_congr List.mem_singleton rfl rfl, cntPollIfAllAnswered]

theorem answerDiscover_eq_update (a : Nibble) (s : State) :
    answerDiscover a s =
      { s with
        cntPoll := nextCount s.cfg s.cntPoll
        guards := s.guards ++ [⟨s.tx.length, s.cfg.guardUs⟩]
        tx := s.tx ++ encodeReply s.cfg a subDiscover []
        outcomes := s.outcomes ++ [.pollAnswered a subDiscover] } := by
  rw [answerDiscover, countPoll_both]
  rfl

theorem answerType_eq_update (a : Nibble) (s : State) :
    answerType a s =
      { s with
        cntPoll := cntPollIfAllAnswered s
        guards := s.guards ++ [⟨s.tx.length, s.cfg.guardUs⟩]
        tx := s.tx ++ encodeReply s.cfg a subType [(readSensor a.toNat s).type, typeReplyByte]
        outcomes := s.outcomes ++ [.pollAnswered a subType] } := by
  rw [answerType, countPoll_allAnswered]
  rfl

theorem answerValue_eq_update (a : Nibble) (s : State) :
    answerValue a s =
      { s with
        cntSensor := nextCount s.cfg s.cntSensor
        cntPoll := cntPollIfAllAnswered s
        guards := s.guards ++ [⟨s.tx.length, s.cfg.guardUs⟩]
        tx := s.tx ++ encodeReply s.cfg a subValue [lo8 (readSensor a.toNat s).value, hi8 (readSensor a.toNat s).value]
        outcomes := s.outcomes ++ [.pollAnswered a subValue] } := by
  rw [answerValue, countValueReply, countPoll_allAnswered]
  rfl

/-! ### The transmit stream (R153, R161) -/

/-- Nothing is transmitted, and no guard pause is made. -/
def KeepsTransmission (s u : State) : Prop := u.tx = s.tx ∧ u.guards = s.guards

/-- The sub-command and the data bytes of the reply to a poll of slot `a` (R154 to R156). -/
def IsPollReply (s : State) (a : Nibble) (sub : Byte) (data : List Byte) : Prop :=
  (sub = subDiscover ∧ data = []) ∨ (sub = subType ∧ data = [(readSensor a.toNat s).type, typeReplyByte]) ∨
    (sub = subValue ∧ data = [lo8 (readSensor a.toNat s).value, hi8 (readSensor a.toNat s).value])

/-- One whole reply is transmitted, after one guard pause made before its first byte. -/
def SendsOneReply (s u : State) : Prop :=
  ∃ (a : Nibble) (sub : Byte) (data : List Byte), 1 ≤ a.toNat ∧ a.toNat ≤ s.sensorCount ∧ IsPollReply s a sub data ∧
    u.tx = s.tx ++ encodeReply s.cfg a sub data ∧ u.guards = s.guards ++ [⟨s.tx.length, s.cfg.guardUs⟩]

/-- What a step may do to the transmit stream. -/
def AtMostOneReply (s u : State) : Prop := KeepsTransmission s u ∨ SendsOneReply s u

/-- A dispatched poll's slot is registered, so its reply and its guard pause are what a step may send. -/
theorem sendsOneReply_of_dispatched (hp : pollDispatched a s = true) (hreply : IsPollReply s a sub data)
    (htx : u.tx = s.tx ++ encodeReply s.cfg a sub data)
    (hguards : u.guards = s.guards ++ [⟨s.tx.length, s.cfg.guardUs⟩]) : SendsOneReply s u := by
  obtain ⟨-, hpos, hle⟩ := (pollDispatched_iff a s).1 hp
  exact ⟨a, sub, data, hpos, hle, hreply, htx, hguards⟩

theorem setChannels_keepsTransmission (data : List Byte) (s : State) : KeepsTransmission s (setChannels data s) := by
  rw [setChannels_eq_update]
  exact ⟨rfl, rfl⟩

theorem dispatchFrame_atMostOneReply (s : State) : AtMostOneReply s (dispatchFrame s) := by
  rcases dispatchFrame_cases s with h | ⟨a, hp, h | h | h⟩ | h | h <;> rw [h]
  · exact .inl (setChannels_keepsTransmission _ s)
  · rw [answerDiscover_eq_update]
    exact .inr (sendsOneReply_of_dispatched hp (.inl ⟨rfl, rfl⟩) rfl rfl)
  · rw [answerType_eq_update]
    exact .inr (sendsOneReply_of_dispatched hp (.inr (.inl ⟨rfl, rfl⟩)) rfl rfl)
  · rw [answerValue_eq_update]
    exact .inr (sendsOneReply_of_dispatched hp (.inr (.inr ⟨rfl, rfl⟩)) rfl rfl)
  · exact .inl ⟨rfl, rfl⟩
  · exact .inl ⟨rfl, rfl⟩

theorem checksumHigh_atMostOneReply (b : Byte) (s : State) : AtMostOneReply s (checksumHigh b s) := by
  rw [checksumHigh]
  split
  · exact (dispatchFrame_atMostOneReply s :)
  · exact .inl ⟨rfl, rfl⟩

theorem perState_atMostOneReply (b : Byte) (s : State) : AtMostOneReply s (perState b s) := by
  rcases perState_cases b s with ⟨-, -, h⟩ | ⟨-, -, h⟩ | ⟨-, h⟩ | ⟨-, h⟩ | ⟨-, h⟩ | ⟨-, h⟩ <;> rw [h]
  · exact .inl ⟨rfl, rfl⟩
  · exact .inl ⟨rfl, rfl⟩
  · exact .inl ⟨rfl, rfl⟩
  · exact .inl ⟨rfl, rfl⟩
  · exact checksumHigh_atMostOneReply b s
  · exact .inl ⟨rfl, rfl⟩

/-- The gap rule changes nothing that a reply depends on. -/
theorem atMostOneReply_gapRule_iff {t : Millis} : AtMostOneReply (gapRule t s) u ↔ AtMostOneReply s u := by
  have hread : ∀ slot, readSensor slot (gapRule t s) = readSensor slot s := readSensor_congr (gapRule_sens s t)
  simp only [AtMostOneReply, KeepsTransmission, SendsOneReply, IsPollReply, hread, gapRule_tx, gapRule_guards,
    gapRule_cfg, gapRule_sensorCount]

theorem receive_atMostOneReply (b : Byte) (t : Millis) (s : State) : AtMostOneReply s (receive b t s) :=
  atMostOneReply_gapRule_iff.1 (perState_atMostOneReply b (gapRule t s))

/-- A guarded event transmits what the state it goes to has transmitted. -/
theorem atMostOneReply_of_afterInit {t : State} (h : afterInit s t = .next u) (ht : AtMostOneReply s t) :
    AtMostOneReply s u := by
  obtain ⟨-, rfl⟩ := (afterInit_eq_next s t u).1 h
  exact ht

/-- No event but a received byte transmits (R161). -/
theorem exec_atMostOneReply {e : EventWord} {i : Instr} (hd : decodeEvent e = .ok i) (h : exec i s = .next u) :
    AtMostOneReply s u := by
  rcases decodeEvent_cases hd with ⟨en, t, rfl⟩ | ⟨b, t, rfl⟩ | ⟨n, rfl⟩ | ⟨ty, rfl⟩ | ⟨slot, v, rfl⟩ | ⟨k, rfl⟩ |
    ⟨x, rfl⟩ | ⟨x, rfl⟩
  · cases h
    exact .inl ⟨rfl, rfl⟩
  · exact atMostOneReply_of_afterInit h (receive_atMostOneReply b t s)
  · exact atMostOneReply_of_afterInit h (.inl ⟨rfl, rfl⟩)
  · refine atMostOneReply_of_afterInit h (.inl ?_)
    split <;> simp [KeepsTransmission, appendSensor]
  · refine atMostOneReply_of_afterInit h (.inl ?_)
    split <;> simp [KeepsTransmission, writeSensorValue]
  · simp only [exec, execReadCounter] at h
    split at h
    · exact atMostOneReply_of_afterInit h (.inl ⟨rfl, rfl⟩)
    · split at h <;> cases h
  · cases h
  · cases h

end Sys2Proof.Machine
end

section
/-!
PROOFS. The statements of spec/42_telemetry.md's family.
-/

namespace Sys2Proof.Proofs

open Sys2Proof Sys2Proof.Machine

/-- Settles O10: the frame's bytes as numbers, and the validator on an encoded frame. -/
theorem encodedReplyPassesTheValidator : Obligations.EncodedReplyPassesTheValidator := by
  intro cfg a sub data hc hd
  refine ⟨frameLength cfg data, commandByte sub a, checksum (frameLength cfg data :: commandByte sub a :: data),
    frameLength_toNat cfg data hc hd, commandByte_toNat sub a, ?_, rfl, decodeFrame_encodeFrame hc hd⟩
  rw [checksum_toNat, List.map_cons, List.sum_cons, List.map_cons, List.sum_cons, Nat.add_assoc]

/-- Settles O37: the counter in the answered polls' updates; the other two frames only observe. -/
theorem pollCounterFollowsItsScope : Obligations.PollCounterFollowsItsScope := by
  intro s u next
  refine ⟨fun a hen hpos hle => ?dispatched, fun cmd data h => ?uncounted⟩
  case dispatched =>
    have hp := (pollDispatched_iff a s).2 ⟨hen, hpos, hle⟩
    rw [exec_pollDiscover_of_dispatched hp, exec_pollType_of_dispatched hp, exec_pollValue_of_dispatched hp,
      answerDiscover_eq_update, answerType_eq_update, answerValue_eq_update]
    refine ⟨fun h => ?_, fun h => ?_⟩
    · cases h
      rfl
    · have hcnt : u.cntPoll = cntPollIfAllAnswered s := by
        rcases h with h | h <;> cases h <;> rfl
      rw [hcnt, cntPollIfAllAnswered]
      cases s.cfg.pollCountScope <;> rfl
  case uncounted =>
    rcases h with h | h
    · cases h
      split <;> rfl
    · cases h
      rfl

/-- Settles O39: each reply decodes by the validator and its command byte. -/
theorem repliesRoundTrip : Obligations.RepliesRoundTrip := by
  intro a s hc hen hpos hle
  have hp := (pollDispatched_iff a s).2 ⟨hen, hpos, hle⟩
  have ha : a ≠ 0#4 := by
    rintro rfl
    exact absurd hpos (by decide)
  refine ⟨⟨_, _, exec_pollType_of_dispatched hp, congrArg State.tx (answerType_eq_update a s), ?_⟩,
    ⟨_, _, exec_pollValue_of_dispatched hp, congrArg State.tx (answerValue_eq_update a s), ?_⟩⟩
  · rw [encodeReply, decode_outbound_encodeFrame hc (length_le_payloadMax_of_le_two hc (by simp)),
      classifyReply_type _ ha]
  · rw [encodeReply, decode_outbound_encodeFrame hc (length_le_payloadMax_of_le_two hc (by simp)),
      classifyReply_value _ ha]

/-- Settles O41: an idle step transmits nothing, and an event's instruction answers at most one poll. -/
theorem oneReplyAtMostAStep : Obligations.OneReplyAtMostAStep := by
  intro s u h
  obtain ⟨-, ⟨-, rfl⟩ | ⟨e, rest, i, -, hd, hexec⟩⟩ := step_next_cases s u h
  · exact .inl ⟨rfl, rfl⟩
  · exact (exec_atMostOneReply hd hexec :)

/-- Settles O31: the update of an answered Discover poll, its reply written out. -/
theorem discoverPollIsAnswered : Obligations.DiscoverPollIsAnswered := by
  intro a s hen hpos hle l cmd c
  rw [exec_pollDiscover_of_dispatched ((pollDispatched_iff a s).2 ⟨hen, hpos, hle⟩), answerDiscover_eq_update,
    encodeReply_of_checksum (checksum_pair _ _)]
  rfl

/-- Settles O32: the update of an answered Type poll, its reply written out. -/
theorem typePollIsAnswered : Obligations.TypePollIsAnswered := by
  intro a s hen hpos hle l cmd ty c
  rw [exec_pollType_of_dispatched ((pollDispatched_iff a s).2 ⟨hen, hpos, hle⟩), answerType_eq_update,
    encodeReply_of_checksum (checksum_quadruple _ _ _ _)]
  rfl

/-- Settles O33: the update of an answered Value poll, its reply written out. -/
theorem valuePollIsAnswered : Obligations.ValuePollIsAnswered := by
  intro a s hen hpos hle l cmd v lo hi c
  rw [exec_pollValue_of_dispatched ((pollDispatched_iff a s).2 ⟨hen, hpos, hle⟩), answerValue_eq_update,
    encodeReply_of_checksum (checksum_quadruple _ _ _ _)]
  rfl

/-- Settles O34: the poll is dispatched by its command byte's address, and only observed. -/
theorem unknownPollHasNoEffect : Obligations.UnknownPollHasNoEffect := by
  intro cmd s hen hpos hle
  have hp : pollDispatched (cmdAddr cmd) s = true := by
    rw [pollDispatched_iff, cmdAddr_toNat]
    exact ⟨hen, hpos, hle⟩
  exact exec_pollUnknown_of_dispatched hp

/-- Settles O35: the arm of IGNORED observes the frame. -/
theorem ignoredFrameHasNoEffect : Obligations.IgnoredFrameHasNoEffect :=
  fun _ _ _ => rfl

end Sys2Proof.Proofs
end

section
/-!
SUPPORT. The host operations after INIT: the next state of each, what a registration and a set value leave in the
registry, and what none of them writes (spec/43_host_interface.md R191 to R196).
-/

namespace Sys2Proof.Machine

variable {s t u : State}

/-! ### The registry after a write (R192, R193) -/

theorem writeSensor_eq_update (slot : Nat) (e : Sensor) (s : State) :
    writeSensor slot e s = { s with sens := (writeSensor slot e s).sens } := by
  rw [writeSensor]
  split <;> rfl

theorem appendSensor_eq_update (ty : Byte) (s : State) :
    appendSensor ty s = { s with sens := (appendSensor ty s).sens, sensorCount := s.sensorCount + 1 } :=
  writeSensor_eq_update (s.sensorCount + 1) ⟨ty, 0#16⟩ { s with sensorCount := s.sensorCount + 1 }

theorem writeSensorValue_eq_update (slot : Nat) (v : Half) (s : State) :
    writeSensorValue slot v s = { s with sens := (writeSensorValue slot v s).sens } :=
  writeSensor_eq_update slot { readSensor slot s with value := v } s

/-- While the storage has a slot left, a registration writes the next one alone. -/
theorem readSensor_appendSensor (ty : Byte) (h15 : s.sensorCount < 15) (slot : Nat) :
    readSensor slot (appendSensor ty s) = if slot = s.sensorCount + 1 then ⟨ty, 0#16⟩ else readSensor slot s := by
  split
  next hslot =>
    subst hslot
    rw [appendSensor, readSensor_writeSensor _ _ _ _ (Nat.succ_pos _) h15, if_pos rfl]
  next hslot => exact readSensor_appendSensor_of_ne ty s hslot

/-- A value set in an existing slot is that slot's alone. -/
theorem readSensor_writeSensorValue_value {slot : Nat} (hpos : 1 ≤ slot) (h15 : slot ≤ 15) (v : Half) (m : Nat) :
    (readSensor m (writeSensorValue slot v s)).value = if m = slot then v else (readSensor m s).value := by
  rw [writeSensorValue, readSensor_writeSensor _ _ _ _ hpos h15, apply_ite Sensor.value, if_congr eq_comm rfl rfl]

/-! ### The counters (R32, R195) -/

theorem readCnt_eq_none {k : Nat} (hk : 4 ≤ k) (s : State) : readCnt k s = none := by
  obtain ⟨j, rfl⟩ := Nat.exists_eq_add_of_le' hk
  rfl

/-! ### The next state of each operation (R191 to R195) -/

theorem exec_readChannel_of_initDone (hi : s.initDone = true) (n : Byte) :
    exec (.readChannel n) s =
      .next (returnResult (.channel (if n.toNat < s.cfg.channels then readCh n.toNat s else 0#16)) s) :=
  afterInit_of_initDone _ _ hi

theorem exec_registerSensor_below_capacity (hi : s.initDone = true) (hcap : s.sensorCount < s.cfg.sensorCapacity)
    (ty : Byte) :
    exec (.registerSensor ty) s = .next (returnResult (.slot (s.sensorCount + 1)) (appendSensor ty s)) := by
  rw [exec, execRegisterSensor, if_pos hcap, appendSensor_sensorCount, afterInit_of_initDone _ _ hi]

theorem exec_registerSensor_at_capacity (hi : s.initDone = true) (hcap : s.cfg.sensorCapacity ≤ s.sensorCount)
    (ty : Byte) :
    exec (.registerSensor ty) s = .next (returnResult (.slot s.sensorCount) (observe (.sensorOverflow ty) s)) := by
  rw [exec, execRegisterSensor, if_neg hcap.not_gt]
  exact afterInit_of_initDone _ _ hi

theorem exec_setSensorValue_of_registered (hi : s.initDone = true) {slot : Byte} (hpos : 1 ≤ slot.toNat)
    (hle : slot.toNat ≤ s.sensorCount) (v : Half) :
    exec (.setSensorValue slot v) s = .next (writeSensorValue slot.toNat v s) := by
  rw [exec, execSetSensorValue, if_pos ⟨hpos, hle⟩, afterInit_of_initDone _ _ hi]

theorem exec_setSensorValue_of_unregistered (hi : s.initDone = true) {slot : Byte}
    (h : ¬ (1 ≤ slot.toNat ∧ slot.toNat ≤ s.sensorCount)) (v : Half) :
    exec (.setSensorValue slot v) s = .next (observe (.sensorSlotOutOfRange slot) s) := by
  rw [exec, execSetSensorValue, if_neg h, afterInit_of_initDone _ _ hi]

theorem exec_readCounter_of_some {k : Byte} {v : Counter} (h : readCnt k.toNat s = some v) :
    exec (.readCounter k) s = afterInit s (returnResult (.counter v) s) := by
  simp only [exec, execReadCounter, h]

theorem exec_readCounter_of_none {k : Byte} (h : readCnt k.toNat s = none) :
    exec (.readCounter k) s = .refused (if s.initDone then .counterNumber k else .beforeInit) := by
  simp only [exec, execReadCounter, h]
  split <;> rfl

/-! ### What the host operations do not write (R196) -/

/-- `s` with the registry, the host port's results and the outcomes of `u`. -/
def withHostSideOf (u s : State) : State :=
  { s with
    sens := u.sens
    sensorCount := u.sensorCount
    results := u.results
    outcomes := u.outcomes }

/-- Going from `s` to `u` writes at most these: what a host operation other than INIT may do (R191 to R196). -/
def WritesHostSideOnly (s u : State) : Prop := u = withHostSideOf u s

theorem writesHostSideOnly_of_afterInit (h : afterInit s t = .next u) (ht : WritesHostSideOnly s t) :
    WritesHostSideOnly s u := by
  obtain ⟨-, rfl⟩ := (afterInit_eq_next s t u).1 h
  exact ht

theorem WritesHostSideOnly.returnResult (h : WritesHostSideOnly s t) (r : HostResult) :
    WritesHostSideOnly s (returnResult r t) :=
  (congrArg (Machine.returnResult r) h :)

theorem appendSensor_writesHostSideOnly (ty : Byte) (s : State) : WritesHostSideOnly s (appendSensor ty s) := by
  rw [appendSensor_eq_update]
  rfl

theorem writeSensorValue_writesHostSideOnly (slot : Nat) (v : Half) (s : State) :
    WritesHostSideOnly s (writeSensorValue slot v s) := by
  rw [writeSensorValue_eq_update]
  rfl

theorem exec_readChannel_writesHostSideOnly {n : Byte} (h : exec (.readChannel n) s = .next u) :
    WritesHostSideOnly s u :=
  writesHostSideOnly_of_afterInit h rfl

theorem exec_registerSensor_writesHostSideOnly {ty : Byte} (h : exec (.registerSensor ty) s = .next u) :
    WritesHostSideOnly s u := by
  refine writesHostSideOnly_of_afterInit h (.returnResult ?_ _)
  split
  · exact appendSensor_writesHostSideOnly ty s
  · rfl

theorem exec_setSensorValue_writesHostSideOnly {slot : Byte} {v : Half}
    (h : exec (.setSensorValue slot v) s = .next u) : WritesHostSideOnly s u := by
  refine writesHostSideOnly_of_afterInit h ?_
  split
  · exact writeSensorValue_writesHostSideOnly slot.toNat v s
  · rfl

theorem exec_readCounter_writesHostSideOnly {k : Byte} (h : exec (.readCounter k) s = .next u) :
    WritesHostSideOnly s u := by
  cases hk : readCnt k.toNat s with
  | some v =>
    rw [exec_readCounter_of_some hk] at h
    exact writesHostSideOnly_of_afterInit h rfl
  | none =>
    rw [exec_readCounter_of_none hk] at h
    cases h

end Sys2Proof.Machine
end

section
/-!
PROOFS. The statements of spec/43_host_interface.md's family.
-/

namespace Sys2Proof.Proofs

open Sys2Proof Sys2Proof.Machine

/-- Settles O45: the only write is the result on the host port. -/
theorem readChannelReturnsTheChannel : Obligations.ReadChannelReturnsTheChannel :=
  fun n _ hi => exec_readChannel_of_initDone hi n

/-- Settles O46: a legal capacity is at most 15, so the next slot below it is in the storage. -/
theorem registerSensorAppends : Obligations.RegisterSensorAppends := by
  intro ty s hi hc
  refine ⟨fun hcap => ⟨_, exec_registerSensor_below_capacity hi hcap ty, ?update, fun slot => ?registry⟩,
    fun hcap => exec_registerSensor_at_capacity hi hcap ty⟩
  case update =>
    rw [appendSensor_eq_update]
    rfl
  case registry =>
    obtain ⟨⟨h15, -⟩, -⟩ := (legal_iff s.cfg).1 hc
    rw [readSensor_congr (returnResult_sens _ _)]
    exact readSensor_appendSensor ty (hcap.trans_le h15) slot

/-- Settles O47: a registered slot is in the storage, and its type is written back as it was read. -/
theorem setSensorValueWritesRegisteredSlots : Obligations.SetSensorValueWritesRegisteredSlots := by
  intro slot v s hi h15
  exact ⟨fun hpos hle => ⟨_, exec_setSensorValue_of_registered hi hpos hle v, writeSensorValue_eq_update _ _ _,
      fun m => ⟨readSensor_writeSensorValue_type _ _ _ _, readSensor_writeSensorValue_value hpos (hle.trans h15) v m⟩⟩,
    fun h => exec_setSensorValue_of_unregistered hi (by omega) v⟩

/-- Settles O48: the four counters by their numbers; no other number has one. -/
theorem readCounterReturnsTheCounter : Obligations.ReadCounterReturnsTheCounter := by
  intro k s hi
  refine ⟨fun v hv => ?_, fun hk => ?_⟩
  · have hread : readCnt k.toNat s = some v := by
      rcases hv with ⟨rfl, rfl⟩ | ⟨rfl, rfl⟩ | ⟨rfl, rfl⟩ | ⟨rfl, rfl⟩ <;> rfl
    rw [exec_readCounter_of_some hread, afterInit_of_initDone _ _ hi, returnResult]
  · rw [exec_readCounter_of_none (readCnt_eq_none hk s), if_pos hi]

/-- Settles O50: each of the four operations writes the registry, the results and the outcomes at most. -/
theorem hostOperationsKeepTheFrame : Obligations.HostOperationsKeepTheFrame := by
  intro n ty slot k v s u h
  have hu : WritesHostSideOnly s u := by
    rcases h with h | h | h | h
    · exact exec_readChannel_writesHostSideOnly h
    · exact exec_registerSensor_writesHostSideOnly h
    · exact exec_setSensorValue_writesHostSideOnly h
    · exact exec_readCounter_writesHostSideOnly h
  rw [hu]
  exact ⟨rfl, rfl, rfl, rfl, rfl, rfl, rfl, rfl, rfl, rfl, rfl, rfl, rfl, rfl⟩

end Sys2Proof.Proofs
end

section
/-!
SUPPORT. What an instruction and a step can answer: a next state, or a refusal with its cause
(spec/60_exceptions.md R220, R239).
-/

namespace Sys2Proof.Machine

variable {s : State}

/-! ### What an instruction can answer (R39, R91, R195) -/

/-- The answers to an instruction: a next state, or one of the refusals that R239 lists, where its cause is met. -/
inductive Answers (s : State) : Instr → Host.Outcome State Fault Refusal → Prop
  /-- The event completes. -/
  | next (i : Instr) (u : State) : Answers s i (.next u)
  /-- R39. -/
  | beforeInit (i : Instr) (hs : s.initDone = false) : Answers s i (.refused .beforeInit)
  /-- R91. -/
  | reservedOp110 (x : BitVec 61) : Answers s (.reservedOp110 x) (.refused .reservedOperation)
  /-- R91. -/
  | reservedOp111 (x : BitVec 61) : Answers s (.reservedOp111 x) (.refused .reservedOperation)
  /-- R195. -/
  | counterNumber (k : Byte) (hk : 4 ≤ k.toNat) : Answers s (.readCounter k) (.refused (.counterNumber k))

theorem afterInit_answers (i : Instr) (s t : State) : Answers s i (afterInit s t) := by
  cases hs : s.initDone with
  | true =>
    rw [afterInit_of_initDone _ _ hs]
    exact .next i t
  | false =>
    rw [afterInit_of_not_initDone _ _ hs]
    exact .beforeInit i hs

theorem exists_readCnt {k : Nat} (hk : k < 4) (s : State) : ∃ v, readCnt k s = some v := by
  interval_cases k <;> exact ⟨_, rfl⟩

theorem exec_readCounter_answers (k : Byte) (s : State) : Answers s (.readCounter k) (exec (.readCounter k) s) := by
  rcases Nat.lt_or_ge k.toNat 4 with hk | hk
  · obtain ⟨v, hv⟩ := exists_readCnt hk s
    rw [exec_readCounter_of_some hv]
    exact afterInit_answers _ _ _
  · rw [exec_readCounter_of_none (readCnt_eq_none hk s)]
    cases hs : s.initDone with
    | true => exact .counterNumber k hk
    | false => exact .beforeInit _ hs

/-- Every instruction but READ_COUNTER and the two reserved operations is refused before INIT alone, if at all. -/
theorem exec_answers (i : Instr) (s : State) : Answers s i (exec i s) := by
  cases i with
  | setChannels data => exact .next _ _
  | pollDiscover a => exact .next _ _
  | pollType a => exact .next _ _
  | pollValue a => exact .next _ _
  | pollUnknown cmd => exact .next _ _
  | ignored cmd data => exact .next _ _
  | replyDiscover a => exact .next _ _
  | replyType a ty => exact .next _ _
  | replyValue a v => exact .next _ _
  | rxLengthAccept b t => exact afterInit_answers _ _ _
  | rxLengthReject b t => exact afterInit_answers _ _ _
  | rxPayload b t => exact afterInit_answers _ _ _
  | rxChecksumLow b t => exact afterInit_answers _ _ _
  | rxChecksumHigh b t => exact afterInit_answers _ _ _
  | rxDiscard b t => exact afterInit_answers _ _ _
  | init en t => exact .next _ _
  | rxByte b t => exact afterInit_answers _ _ _
  | readChannel n => exact afterInit_answers _ _ _
  | registerSensor ty => exact afterInit_answers _ _ _
  | setSensorValue slot v => exact afterInit_answers _ _ _
  | readCounter k => exact exec_readCounter_answers k s
  | reservedOp110 x => exact .reservedOp110 x
  | reservedOp111 x => exact .reservedOp111 x

/-- After INIT none of the causes is met by an instruction that may run (R220). -/
theorem Answers.exists_next {i : Instr} {o : Host.Outcome State Fault Refusal} (h : Answers s i o)
    (hs : s.initDone = true) (hi : mayRun i = true) : ∃ u, o = .next u := by
  cases h with
  | next _ u => exact ⟨u, rfl⟩
  | beforeInit _ hs' => exact absurd (hs'.symm.trans hs) (by decide)
  | reservedOp110 x => cases hi
  | reservedOp111 x => cases hi
  | counterNumber k hk =>
    have hlt : k.toNat < 4 := of_decide_eq_true hi
    omega

/-! ### The spelling of the refused events (R90, R91) -/

/-- An event whose instruction is encoded as a reserved operation's word has that operation. -/
theorem op_of_decodeEvent_reserved {e : EventWord} {i : Instr} {op : BitVec 3} {x : BitVec 61}
    (h : decodeEvent e = .ok i) (hi : encode Config.standard i = .event (reservedWord op x)) :
    e.extractLsb' 0 3 = op := by
  obtain rfl := Code.event.inj (hi.symm.trans (encode_of_decodeEvent Config.standard h))
  exact (reservedWord_fields op x).1

/-- The two reserved operations always decode, and the others do where no reserved bit is set. -/
theorem reserved_bit_of_undecodable {e : EventWord} {r : Reject} (h : decodeEvent e = .error r) :
    e &&& reservedBits (e.extractLsb' 0 3) ≠ 0#64 := by
  intro hres
  obtain ⟨i, hi⟩ : ∃ i, decodeEvent e = .ok i := by
    rcases Nat.lt_or_ge 5 (e.extractLsb' 0 3).toNat with hop | hop
    · have hop' : e.extractLsb' 0 3 = 6#3 ∨ e.extractLsb' 0 3 = 7#3 := by bv_omega
      rcases hop' with hop | hop <;> rw [eq_reservedWord hop]
      · exact ⟨_, decodeEvent_reservedOp110 _⟩
      · exact ⟨_, decodeEvent_reservedOp111 _⟩
    · exact decodeEvent_of_no_reserved_bit hop hres
  cases hi.symm.trans h

/-! ### What a refused step can be -/

/-- A refused step is in a configuration that is not legal, or at an event that does not decode or whose instruction is
refused. -/
theorem step_refused_cases {r : Refusal} (h : step s = .refused r) :
    (r = .illegalConfiguration ∧ s.cfg.legal = false) ∨
      ∃ e rest, s.events = e :: rest ∧
        ((∃ x, decodeEvent e = .error x ∧ r = .undecodable x) ∨
          ∃ i, decodeEvent e = .ok i ∧ exec i { s with events := rest } = .refused r) := by
  cases hc : s.cfg.legal with
  | false =>
    rw [step_of_not_legal (Bool.eq_false_iff.1 hc)] at h
    cases h
    exact .inl ⟨rfl, rfl⟩
  | true =>
    cases he : s.events with
    | nil =>
      rw [step_of_idle hc he] at h
      cases h
    | cons e rest =>
      refine .inr ⟨e, rest, rfl, ?_⟩
      cases hd : decodeEvent e with
      | error x =>
        rw [step_of_undecodable hc he hd] at h
        cases h
        exact .inl ⟨x, rfl, rfl⟩
      | ok i => exact .inr ⟨i, rfl, (step_of_decoded hc he hd).symm.trans h⟩

end Sys2Proof.Machine
end

section
/-!
PROOFS. The statements of spec/60_exceptions.md's family.
-/

namespace Sys2Proof.Proofs

open Sys2Proof Sys2Proof.Machine

/-- Settles O15: the step is the event's instruction, and no cause of a refusal is met. -/
theorem wellEncodedEventsRunAfterInit : Obligations.WellEncodedEventsRunAfterInit := by
  intro s e rest i hc hs he hd hi
  rw [step_of_decoded hc he hd]
  exact (exec_answers i _).exists_next hs hi

/-- Settles O16: there is no fault to answer, and each refusal names the cause that was met. -/
theorem refusalsAreTheListedOnes : Obligations.RefusalsAreTheListedOnes := by
  refine fun s => ⟨nofun, fun r hr => ?_⟩
  rcases step_refused_cases hr with hcfg | ⟨e, rest, he, ⟨x, hd, rfl⟩ | ⟨i, hd, hexec⟩⟩
  · exact .inl hcfg
  · exact .inr (.inr ⟨e, rest, he, .inr (.inl ⟨x, rfl, reserved_bit_of_undecodable hd⟩)⟩)
  · have hans := exec_answers i { s with events := rest }
    rw [hexec] at hans
    cases hans with
    | beforeInit _ hs => exact .inr (.inl ⟨rfl, hs⟩)
    | reservedOp110 x =>
      exact .inr (.inr ⟨e, rest, he, .inl ⟨rfl, by rw [op_of_decodeEvent_reserved hd rfl]; decide⟩⟩)
    | reservedOp111 x =>
      exact .inr (.inr ⟨e, rest, he, .inl ⟨rfl, by rw [op_of_decodeEvent_reserved hd rfl]; decide⟩⟩)
    | counterNumber k hk => exact .inr (.inr ⟨e, rest, he, .inr (.inr ⟨k, rfl, hk, hd⟩)⟩)

end Sys2Proof.Proofs
end

section
/-!
SUPPORT. The decoder after INIT: it discards, and the time of its gap rule is the INIT's (spec/10_state.md R38,
spec/70_reset_and_hazards.md R250).
-/

namespace Sys2Proof.Machine

variable {s u : State} {t₀ t : Millis}

/-- The decoder as an INIT at `t₀` leaves it: idle in Discarding, with no length error counted. -/
structure FreshAt (t₀ : Millis) (u : State) : Prop where
  initDone : u.initDone = true
  dstate : u.dstate = .discarding
  lastMs : u.lastMs = t₀
  cntLenerr : u.cntLenerr = 0#32

theorem freshAt_of_exec_init {en : Bool} (h : exec (.init en t₀) s = .next u) : FreshAt t₀ u := by
  cases h
  exact ⟨rfl, rfl, rfl, rfl⟩

/-- The gap rule measures from the INIT, so a gap since then is what makes the first byte a length byte. -/
theorem FreshAt.gapRule_dstate_of_gap (h : FreshAt t₀ u)
    (hgap : u.cfg.gapMs < (t - t₀).toNat % 2 ^ u.cfg.clockBits) : (gapRule t u).dstate = .awaitingLength := by
  rw [gapRule_dstate, if_pos ((gapExceeded_iff t u).2 (h.lastMs ▸ hgap))]

end Sys2Proof.Machine
end

section
/-!
PROOFS. The statement of spec/70_reset_and_hazards.md's family.
-/

namespace Sys2Proof.Proofs

open Sys2Proof Sys2Proof.Machine

/-- Settles O44: INIT leaves the decoder discarding with `last_ms = t₀`, so the first byte falls under the rule of
Discarding without a gap, and under those of an accepted or a rejected length byte after one. -/
theorem firstByteAfterInitNeedsAGap : Obligations.FirstByteAfterInitNeedsAGap := by
  intro en t₀ t b s u hinit
  have hfresh := freshAt_of_exec_init hinit
  rw [← exec_cfg _ hinit]
  refine ⟨fun hgap => ?noGap, fun hgap hlo hhi => ?accepted, fun hgap hout => ?rejected⟩
  case noGap => exact (discardedByteSetsTheTimeOnly b t u hfresh.initDone hfresh.dstate (hfresh.lastMs ▸ hgap)).2
  case accepted =>
    exact ⟨_, (lengthByteIsAccepted b t u hfresh.initDone (hfresh.gapRule_dstate_of_gap hgap) hlo hhi).2, rfl, rfl, rfl⟩
  case rejected =>
    refine ⟨_, (lengthByteIsRejected b t u hfresh.initDone (hfresh.gapRule_dstate_of_gap hgap) hout).2, rfl, ?_⟩
    simp [hfresh.cntLenerr]

end Sys2Proof.Proofs
end
